-- ==== Sys2Proof/Word.lean ====
section
/-! DEFINITION. The widths of what the serial link carries (R2, R8, R15): bytes and 16-bit values.
Measured, computed and configured quantities are plain numbers (R1: all arithmetic is integer). -/

namespace Sys2Proof

/-- One byte of a frame (R2). -/
abbrev Byte := BitVec 8

/-- A 16-bit value of a notice or of a frame's CRC (R4, R15). -/
abbrev Word16 := BitVec 16

end Sys2Proof
end

