-- ==== Sys2Proof/Config.lean ====
section
/-! DEFINITION. The constants the manual fixes for the part, each with the rule that fixes it.
Times are in microseconds of part time, the finer of the manual's two time bases (chapter 00, "Time").
The manual leaves no result of an operation open, so no free value stands here. -/

namespace Sys2Proof.Config

/-- One millisecond on the microsecond time base. -/
def ms : Nat := 1000

/-- The millisecond counter wraps after 65 535 (chapter 00, "Time"). -/
def wrap16 : Nat := 65536

/-- A frame has exactly 32 bytes, 256 bits (R2, R5). -/
def frameBits : Nat := 256

/-- Capacity of the notice queue (R17). -/
def noticeCap : Nat := 16

/-- Capacity of the shift queue (R113). -/
def shiftCap : Nat := 4

/-- P_clutch_max, the ceiling of every clutch command (R95). -/
def pClutchMax : Nat := 250

/-- Staleness time of the sensor snapshot (R60). -/
def scanStaleTime : Nat := 50 * ms

/-- Nominal length of a scan conversion (R50). -/
def scanConvTime : Nat := 500

/-- Longest a scan conversion may take (R54). -/
def scanConvLimit : Nat := 2 * ms

/-- Gap time of a pulse input (R62), which is also the longest period. -/
def pulseGap : Nat := 400 * ms

/-- Period of the motion update (R63). -/
def motionPeriod : Nat := 10 * ms

/-- Staleness time of the engine record (R75). -/
def engineStaleTime : Nat := 500 * ms

/-- Age at which a slip ring without new samples is emptied (R68). -/
def slipRingAge : Nat := 100 * ms

/-- Time the standstill condition must hold (R70). -/
def standstillTime : Nat := 500 * ms

/-- Period of the diagnostic sample of a channel (R83). -/
def diagPeriod : Nat := 1 * ms

/-- Qualification time of an open load (R84) and of an off-state result (R87). -/
def loadHold : Nat := 50 * ms

/-- Load current above which the over-current trip acts, in mA (R85). -/
def tripCurrent : Nat := 2400

/-- Qualification time of the supply monitor (R90, R91). -/
def supplyHoldTime : Nat := 100 * ms

/-- Period of the modulation update (R121). -/
def modPeriod : Nat := 5 * ms

/-- Length of the recovery ramp (R128). -/
def recoveryRamp : Nat := 200 * ms

/-- Time after which a recovery fails (R129). -/
def recoveryLimit : Nat := 1000 * ms

/-- Dump time of ABORTING (R130). -/
def dumpTime : Nat := 100 * ms

/-- Longest supply wait of a PENDING entry (R118). -/
def supplyWaitTime : Nat := 1000 * ms

/-- Longest brake wait of a PENDING upshift (R118). -/
def brakeWaitTime : Nat := 3000 * ms

/-- Hold time of the locked-gear slip test (R131). -/
def clutchSlipTime : Nat := 200 * ms

/-- Hold time of the slip demand (R142). -/
def slipDemandTime : Nat := 1000 * ms

/-- Dwell of the front drive (R144). -/
def dwellTime : Nat := 2000 * ms

/-- Length of an ENGAGE_WAIT (R146). -/
def frontWaitTime : Nat := 2000 * ms

/-- Time without movement that is a stall (R174). -/
def stallTime : Nat := 1000 * ms

/-- Lever match window, 2.0 % of travel (R154, R156). -/
def leverWindow : Nat := 20

/-- Opening from which the stall test judges a valve (R174). -/
def stallOpening : Nat := 300

/-- Movement that shows a hitch is not stalled (R174). -/
def stallMove : Nat := 5

/-- Length of the charge window (R186). -/
def chargeTime : Nat := 2000 * ms

/-- Hold time of a low supplementary line (R187). -/
def lowHoldTime : Nat := 500 * ms

/-- Hold time of a control-line deviation (R188). -/
def deviationTime : Nat := 300 * ms

/-- Run-out of pre-brake (R189). -/
def runOutTime : Nat := 300 * ms

/-- Length of line check stage 1 (R190). -/
def stage1Time : Nat := 1000 * ms

/-- Length of line check stage 2 (R191). -/
def stage2Time : Nat := 2000 * ms

/-- Test pressure of the line check (R182, R190). -/
def testPressure : Nat := 1000

/-- How many brake record publications one step delivers at most (log entry 4). -/
def deliveryFuel : Nat := 64

end Sys2Proof.Config
end

