-- ==== Sys2Proof/Syntax.lean ====
section
/-! DEFINITION. The commands of the part: one constructor of `Instr` per row of spec/opcode_table.json, in the
table's order. A row that is a request frame carries the frame's own bytes (`Request`); a row that is an event
of a pin, a converter or a timer carries what the pin or the converter delivers. -/

namespace Sys2Proof

/-- What a valid request frame carries beside its kind and its CRC (R2): the tag, the body length byte and the
27 body bytes, as received. -/
structure Request where
  tag  : Byte
  len  : Byte
  body : List Byte
deriving DecidableEq, Repr

/-- The four pulse inputs (R61), coded 0..3 in this order. -/
inductive PulseIn where
  | input | output | front | radar
deriving DecidableEq, Repr

/-- The fourteen output channels (R76), coded 0..13 in this order. -/
inductive Channel where
  | s1 | s2 | s3 | s4 | l | m | h | f | r
  | raise | lower | frontRelease | trlCtrl | trlSupp
deriving DecidableEq, Repr

/-- What the sensing current of a switched-off load shows (R87). -/
inductive OffState where
  | healthy | openLoad | shortLoad
deriving DecidableEq, Repr

/-- The commands of the part, one per row of the operation and event table. -/
inductive Instr where
  /-- POWER_ON (R26): a power-on reset. -/
  | powerOn
  /-- TORN_FRAME (R5): chip select rises after `bits` were clocked in, their count other than 256. -/
  | tornFrame (bits : List Bool)
  /-- CRC_FAILURE (R6): a 256-bit frame whose received CRC `crc` does not match its bytes 0..29. -/
  | crcFailure (kind : Byte) (f : Request) (crc : Word16)
  /-- UNKNOWN_REQUEST (R7): a valid frame whose kind is not in the catalogue. -/
  | unknownRequest (kind : Byte) (f : Request)
  | poll (f : Request)
  | status (f : Request)
  | read (f : Request)
  | fetchNotice (f : Request)
  | setNoticeLevel (f : Request)
  | cfgLink (f : Request)
  | resume (f : Request)
  | restart (f : Request)
  | start (f : Request)
  | cfgLimits (f : Request)
  | lockLimits (f : Request)
  | cfgScanStep (f : Request)
  | cfgRole (f : Request)
  | cfgDraft (f : Request)
  | cfgSpeedInput (f : Request)
  | scanStart (f : Request)
  | scanStop (f : Request)
  | engineInfo (f : Request)
  | cfgOutput (f : Request)
  | cfgSupply (f : Request)
  | cfgGear (f : Request)
  /-- CFG_PROFILE_STEP with an operation byte other than TRUNCATE (R104). -/
  | cfgProfileStepWrite (f : Request)
  /-- CFG_PROFILE_STEP with the operation byte TRUNCATE (R104). -/
  | cfgProfileStepTruncate (f : Request)
  | cfgProfileMap (f : Request)
  | cfgShift (f : Request)
  | shift (f : Request)
  | shuttle (f : Request)
  | neutral (f : Request)
  | cfgFront (f : Request)
  | frontMode (f : Request)
  | cfgHitch (f : Request)
  | hitchSet (f : Request)
  | hitchMode (f : Request)
  | hitchHold (f : Request)
  | hitchRelease (f : Request)
  | cfgTrailer (f : Request)
  | cfgCurvePoint (f : Request)
  | trailerMode (f : Request)
  | trailerHand (f : Request)
  | lineCheck (f : Request)
  | clearFault (f : Request)
  /-- SUPERVISION_EXPIRY (R22). -/
  | supervisionExpiry
  /-- CONVERSION_START (R40, R41). -/
  | conversionStart
  /-- CONVERSION_END (R40 to R43): the two pins as converted, −4 096..+4 095. -/
  | conversionEnd (left right : BitVec 13)
  /-- FAST_SAMPLE (R46): the two pins through the short filter. -/
  | fastSample (left right : BitVec 13)
  /-- SHOCK_TIMER_EXPIRY (R166). -/
  | shockTimerExpiry
  /-- SCAN_STEP_DELAY_END (R50). -/
  | scanStepDelayEnd
  /-- SCAN_STEP_CONVERSION_END (R50): the raw count, 0..4 095. -/
  | scanStepConversionEnd (raw : BitVec 12)
  /-- SCAN_CONVERSION_TIMEOUT (R54). -/
  | scanConversionTimeout
  /-- SCAN_STALE_EXPIRY (R60). -/
  | scanStaleExpiry
  /-- SUPPLY_QUALIFICATION_EXPIRY (R90). -/
  | supplyQualificationExpiry
  /-- PULSE_EDGE (R62). -/
  | pulseEdge (inp : PulseIn)
  /-- PULSE_GAP_EXPIRY (R62). -/
  | pulseGapExpiry (inp : PulseIn)
  /-- MOTION_UPDATE (R63). -/
  | motionUpdate
  /-- ENGINE_INFO_STALE_EXPIRY (R75). -/
  | engineInfoStaleExpiry
  /-- DIAGNOSTIC_SAMPLE (R83): the current measured in mA and, for a forced channel, the off-state result. -/
  | diagnosticSample (ch : Channel) (current : Word16) (off : OffState)
  /-- OVERCURRENT_TRIP (R85): the load current that the driver saw, in mA. -/
  | overcurrentTrip (ch : Channel) (current : Word16)
  /-- SHIFT_START (R119). -/
  | shiftStart
  /-- SUPPLY_WAIT_EXPIRY (R118). -/
  | supplyWaitExpiry
  /-- BRAKE_WAIT_EXPIRY (R118). -/
  | brakeWaitExpiry
  /-- MODULATION_UPDATE (R121). -/
  | modulationUpdate
  /-- STEP_TIMEOUT (R127). -/
  | stepTimeout
  /-- RECOVERY_FAILURE (R129). -/
  | recoveryFailure
  /-- DUMP_TIME_EXPIRY (R130). -/
  | dumpTimeExpiry
  /-- FRONT_WAIT_EXPIRY (R148). -/
  | frontWaitExpiry
  /-- CHARGE_WINDOW_EXPIRY (R186). -/
  | chargeWindowExpiry
  /-- TRL_SUPP_LOW_HOLD_EXPIRY (R187). -/
  | trlSuppLowHoldExpiry
  /-- LINE_CHECK_STAGE_EXPIRY (R191). -/
  | lineCheckStageExpiry
  /-- PRE_BRAKE_RUN_OUT_EXPIRY (R189). -/
  | preBrakeRunOutExpiry
deriving DecidableEq, Repr

end Sys2Proof
end

