-- ==== Sys2Proof/Decode.lean ====
section
/-! DEFINITION. Bits, bytes and the CRC of the serial link (R2 to R4, R8), and the reading of a table word.
spec/opcode_table.json gives no row any bits, so no word spells a command and `decodeTableWord` answers none. -/

namespace Sys2Proof

/-- The bits of a byte in line order, most significant bit first (R2). -/
def byteBits (b : Byte) : List Bool :=
  [b.getLsbD 7, b.getLsbD 6, b.getLsbD 5, b.getLsbD 4, b.getLsbD 3, b.getLsbD 2, b.getLsbD 1, b.getLsbD 0]

/-- The bits of a run of bytes in line order (R2). -/
def bytesBits (bs : List Byte) : List Bool := bs.flatMap byteBits

/-- The byte that up to eight bits in line order form (R2). -/
def bitsByte (bits : List Bool) : Byte :=
  BitVec.ofNat 8 (bits.foldl (fun n b => 2 * n + b.toNat) 0)

/-- The first `n` whole bytes of a run of bits (R2). -/
def bitsBytes : Nat → List Bool → List Byte
  | 0, _ => []
  | n + 1, bits => bitsByte (bits.take 8) :: bitsBytes n (bits.drop 8)

/-- One bit through the CRC generator 0x1021, not reflected (R4). -/
def crcBit (crc : Word16) (b : Bool) : Word16 :=
  if crc.getLsbD 15 != b then (crc <<< 1) ^^^ 0x1021#16 else crc <<< 1

/-- CRC-16 of a run of bytes, initial value 0xFFFF, no final inversion (R4). -/
def crc16 (bs : List Byte) : Word16 := (bytesBits bs).foldl crcBit 0xFFFF#16

/-- A 16-bit value as two bytes, the most significant first (R8). -/
def be16 (n : Nat) : List Byte := [BitVec.ofNat 8 (n / 256), BitVec.ofNat 8 n]

/-- A signed value as two bytes of two's complement (R8). -/
def beInt (i : Int) : List Byte := be16 (BitVec.ofInt 16 i).toNat

/-- A one-byte field (R8). -/
def be8 (n : Nat) : List Byte := [BitVec.ofNat 8 n]

/-- A yes/no field: one byte, 0 or 1 (R8). -/
def beBool (b : Bool) : List Byte := be8 b.toNat

/-- A list of bytes followed by zero bytes up to length `n`, or cut there (R8). -/
def padTo (n : Nat) (bs : List Byte) : List Byte := (bs ++ List.replicate n 0#8).take n

/-- Body byte `i` of a request (R2). -/
def Request.byte (f : Request) (i : Nat) : Byte := f.body.getD i 0#8

/-- The unsigned one-byte field at body byte `i` (R8). -/
def Request.u8 (f : Request) (i : Nat) : Nat := (f.byte i).toNat

/-- The signed one-byte field at body byte `i` (R8). -/
def Request.s8 (f : Request) (i : Nat) : Int := (f.byte i).toInt

/-- The unsigned two-byte field at body byte `i`, big-endian (R8). -/
def Request.u16 (f : Request) (i : Nat) : Nat := 256 * f.u8 i + f.u8 (i + 1)

/-- The signed two-byte field at body byte `i`, big-endian two's complement (R8). -/
def Request.s16 (f : Request) (i : Nat) : Int := (BitVec.ofNat 16 (f.u16 i)).toInt

/-- Bytes 0..29 of the request frame of kind `kind` (R2). -/
def frameHead (kind : Byte) (f : Request) : List Byte :=
  kind :: f.tag :: f.len :: padTo 27 f.body

/-- The 32 bytes of a request frame with the received CRC `crc` (R2). -/
def frameBytes (kind : Byte) (f : Request) (crc : Word16) : List Byte :=
  frameHead kind f ++ be16 crc.toNat

/-- The request a run of 32 frame bytes carries (R2). -/
def requestOf (bs : List Byte) : Request :=
  { tag := bs.getD 1 0#8, len := bs.getD 2 0#8, body := (bs.drop 3).take 27 }

/-- The command a table word spells: the table gives no row any bits, so none. -/
def decodeTableWord (_nbits _w : Nat) : Option Instr := none

end Sys2Proof
end

