-- ==== Sys2Proof/Machine/State.lean ====
section
/-! DEFINITION. The state of the TD-448, block by block, as plain data, and its value at power-on (R26).
Every stored time is in microseconds of part time since power-on, not reduced modulo 65 536: the manual's tests
of elapsed time use the true elapsed time (chapter 00, "Time"); a record or notice shows `stamp` of it. -/

namespace Sys2Proof.Machine

open Sys2Proof

/-- Why the part stops: the manual gives no event after which the part stops, so this has no constructor and a
step never faults (safe: there is nothing here that hides a behaviour). -/
inductive Fault where
deriving DecidableEq, Repr

/-- Why a command has no meaning. -/
inductive Refusal where
  /-- Raised by exec's arm of a command that has no meaning yet; no arm raises it (safe: it claims no behaviour). -/
  | notModelled (mnemonic : String)
deriving DecidableEq, Repr

/-! ### Part level (chapter 02) -/

/-- Part states (R26). -/
inductive PartState where
  | config | run
deriving DecidableEq, Repr

/-- The limit set with its power-on defaults (R29). -/
structure LimitSet where
  gMaxRoad         : Nat := 12
  gMaxUnverified   : Nat := 8
  gMaxField        : Nat := 12
  rMax             : Nat := 6
  pTrlMax          : Nat := 1500
  pHitchUpperHard  : Nat := 1000
  vShuttleMax      : Nat := 2000
  nEngineMax       : Nat := 2400
deriving DecidableEq, Repr

/-- The Part Configuration block (R26, R29, R31). -/
structure PartConfig where
  part   : PartState := .config
  limits : LimitSet := {}
  lock   : Bool := false
deriving DecidableEq, Repr

/-! ### Link Port (chapter 01) -/

/-- Link states (section 1.6). -/
inductive LinkState where
  | up | lost | restoredWait
deriving DecidableEq, Repr

/-- Link-loss policies, coded 0 and 1 (R8). -/
inductive Policy where
  | hold | safe
deriving DecidableEq, Repr

/-- Status codes, coded 0..12 in this order (R11). -/
inductive Status where
  | ok | okClamped | okMerged | okQueued | refusedState | refusedRange | refusedLocked | refusedFault
  | refusedQueueFull | refusedCondition | refusedConfig | refusedUnknown | linkError
deriving DecidableEq, Repr

/-- Source blocks of a notice, coded 0..9 in this order (R15). -/
inductive Block where
  | lp | pc | mu | me | vo | sc | fdm | hc | tbc | ft
deriving DecidableEq, Repr

/-- Notice kinds, coded 0..17 in this order (R15). -/
inductive NoticeKind where
  | shiftDone | shiftClamped | shiftDropped | shiftRecovered | shiftNeutraled | windowChanged | aboveWindow
  | frontChanged | frontWaitExpired | hitchState | hitchShock | supplyChanged | trailerModeChanged
  | lineCheckResult | faultRaised | faultEnded | linkRestored | scanDone
deriving DecidableEq, Repr

/-- A notice record (R15); `time` is the part time of its creation. -/
structure Notice where
  kind   : NoticeKind
  level  : Nat
  source : Block
  time   : Nat
  v1     : Word16
  v2     : Word16
deriving DecidableEq, Repr

/-- A reply frame (R2): byte 0, byte 1, the status code, the part summary, the 26 body bytes and the CRC. -/
structure ReplyFrame where
  kind    : Byte
  tag     : Byte
  status  : Byte
  summary : Byte
  body    : List Byte
  crc     : Word16
deriving DecidableEq, Repr

/-- Bytes 0..29 of a reply frame (R2). -/
def replyHead (kind tag status summary : Byte) (body : List Byte) : List Byte :=
  kind :: tag :: status :: summary :: body

/-- A reply frame formed with its zero padding and its CRC (R4, R8). -/
def mkReply (kind tag status summary : Byte) (body : List Byte) : ReplyFrame :=
  { kind := kind, tag := tag, status := status, summary := summary, body := padTo 26 body
    crc := crc16 (replyHead kind tag status summary (padTo 26 body)) }

/-- The Link Port (R3, R9, R15 to R25). `supervision` is the time at which the supervision timer expires, absent
while the timer is stopped; `lossTime` is the time of the latest expiry (R22). `frame` and `bitCount` are the
frame buffer and its bit count, `dataOut` the bits driven on data out during the latest frame (R3). -/
structure LinkPort where
  slot        : ReplyFrame := mkReply 1#8 0#8 0#8 0#8 []
  frame       : List Bool := []
  bitCount    : Nat := 0
  dataOut     : List Bool := []
  notices     : List Notice := []
  lost        : Bool := false
  lostMarker  : Bool := false
  attn        : Bool := false
  threshold   : Nat := 1
  tLink       : Nat := 200
  policy      : Policy := .safe
  link        : LinkState := .up
  supervision : Option Nat := none
  lossTime    : Nat := 0
deriving DecidableEq, Repr

/-! ### Measurement Unit (chapter 03) -/

/-- Draft converter and comparator settings with their power-on values (R39). -/
structure DraftCfg where
  tD        : Nat := 2
  chop      : Bool := false
  chopDelay : Nat := 0
  leftLow   : Int := -4000
  leftHigh  : Int := 4000
  rightLow  : Int := -4000
  rightHigh : Int := 4000
  dShock    : Nat := 6000
  nShock    : Nat := 4
deriving DecidableEq, Repr

/-- The draft converter (R40 to R42). `startDue` is when the next conversion starts, absent once a chopped phase has
started its three; `started` counts the conversions started in the phase, `ends` holds when those in progress end,
oldest first; `settled` counts the conversions ended since the filter's reset, up to 2; `prev` holds the previous
phase's settled pins. -/
structure DraftConv where
  running  : Bool := false
  negative : Bool := false
  startDue : Option Nat := none
  started  : Nat := 0
  ends     : List Nat := []
  settled  : Nat := 0
  prev     : Option (Int × Int) := none
deriving DecidableEq, Repr

/-- The draft status (R44): D and validity of the latest result, absent for "no result", and the last valid D. -/
structure DraftStatus where
  latest    : Option (Int × Bool) := none
  lastValid : Option Int := none
deriving DecidableEq, Repr

/-- The fast overload comparator (R46, R48): its over-threshold count, the samples still to be ignored after a
reversal, and when its next sample is due. -/
structure FastComp where
  running   : Bool := false
  count     : Nat := 0
  ignored   : Nat := 0
  sampleDue : Nat := 0
deriving DecidableEq, Repr

/-- Scan modes, coded 0..2 (R49). -/
inductive ScanMode where
  | continuous | single | track
deriving DecidableEq, Repr

/-- A scan step (R49); role 0..15, or 16 for NONE. -/
structure ScanStep where
  enabled : Bool := false
  pin     : Nat := 0
  role    : Nat := 16
deriving DecidableEq, Repr

/-- A scan run in progress (R50): the copy of the table and delay it took, the step it has reached, whether that
step's conversion runs, when its delay ends or its conversion started, and the raw counts converted. -/
structure ScanRun where
  steps      : Vector ScanStep 16
  delay      : Nat
  stepAt     : Fin 16
  converting : Bool
  since      : Nat
  counts     : Vector (Option Nat) 16
deriving DecidableEq, Repr

/-- Offset and gain of a role (R57). -/
structure RoleScale where
  offset : Nat := 0
  gain   : Int := 1024
deriving DecidableEq, Repr

/-- A role's entry of the sensor snapshot (R55, R58). -/
structure RoleEntry where
  present : Bool := false
  value   : Int := 0
  valid   : Bool := false
  age     : Nat := 0
deriving DecidableEq, Repr

/-- Which end of the converter's range an invalid count lay at, coded 0 and 1 (R58, R59). -/
inductive RangeEnd where
  | low | high
deriving DecidableEq, Repr

/-- What the MU keeps for a role between runs (R58, R59): the held value with the time of the run that gave it,
the LOW or HIGH memory and the count of consecutive invalid runs. -/
structure RoleMem where
  held     : Option (Int × Nat) := none
  rangeEnd : Option RangeEnd := none
  invalid  : Nat := 0
deriving DecidableEq, Repr

/-- The sensor snapshot (R55, R56). -/
structure Snapshot where
  run     : Nat := 0
  time    : Nat := 0
  entries : Vector RoleEntry 16 := .replicate 16 {}
deriving DecidableEq, Repr

/-- States of a pulse input (R62). -/
inductive PulseState where
  | stopped | firstEdge | running
deriving DecidableEq, Repr

/-- A pulse input: its calibration (R61) and its capture (R62); `gap` is when its gap timer expires. -/
structure Pulse where
  calibrated : Bool := false
  ppr        : Nat := 0
  k          : Nat := 0
  present    : Bool := false
  state      : PulseState := .stopped
  lastEdge   : Nat := 0
  period     : Nat := 0
  gap        : Option Nat := none
deriving DecidableEq, Repr

/-- The Measurement Unit. `stale` is when the staleness timer of R60 expires, absent while it is stopped. -/
structure Measure where
  cfg          : DraftCfg := {}
  dc           : DraftConv := {}
  draft        : DraftStatus := {}
  draftInvalid : Nat := 0
  foc          : FastComp := {}
  steps        : Vector ScanStep 16 := .replicate 16 {}
  muxDelay     : Nat := 0
  scanMode     : ScanMode := .single
  run          : Option ScanRun := none
  stopPending  : Bool := false
  runCounter   : Nat := 0
  snapshot     : Snapshot := {}
  scales       : Vector RoleScale 16 := .replicate 16 {}
  mem          : Vector RoleMem 16 := .replicate 16 {}
  stale        : Option Nat := none
  pulse        : Vector Pulse 4 := .replicate 4 {}
deriving DecidableEq, Repr

/-! ### Motion Estimator (chapter 04) -/

/-- Directions, coded 0..2 (R110). -/
inductive Dir where
  | f | r | n
deriving DecidableEq, Repr

/-- The motion record (R64). -/
structure MotionRecord where
  time          : Nat := 0
  vR            : Nat := 0
  vF            : Nat := 0
  vG            : Nat := 0
  vGValid       : Bool := false
  nIn           : Nat := 0
  nOut          : Nat := 0
  slip          : Nat := 0
  slipValid     : Bool := false
  ringEntries   : Nat := 0
  lead          : Nat := 0
  leadValid     : Bool := false
  standstill    : Bool := false
  dir           : Dir := .n
  inputSuspect  : Bool := false
  frontSuspect  : Bool := false
  radarSuspect  : Bool := false
deriving DecidableEq, Repr

/-- The engine record as received (R74). -/
structure EngineRecord where
  speed    : Nat := 0
  torque   : Nat := 1000
  oil      : Int := 20
  received : Nat := 0
  stale    : Bool := false
deriving DecidableEq, Repr

/-- The Motion Estimator: its record, slip ring (R68), standstill time (R70), plausibility hold times (R71),
update timer (R63), engine record and its staleness timer (R75). -/
structure Motion where
  pub           : MotionRecord := {}
  ring          : List Nat := []
  lastSample    : Option Nat := none
  standSince    : Option Nat := none
  inputHold     : Option Nat := none
  frontHold     : Option Nat := none
  radarHold     : Option Nat := none
  updateDue     : Option Nat := none
  engine        : EngineRecord := {}
  engineStale   : Option Nat := none
deriving DecidableEq, Repr

/-! ### Valve outputs and supply (chapter 05) -/

/-- A channel's characteristic: the parameters A, B, C of CFG_OUTPUT (R78). -/
structure Charac where
  a : Nat
  b : Nat
  c : Nat
deriving DecidableEq, Repr

/-- An output channel (R77). An on/off command is 1 or 0. `openHold` and `offHold` are the hold times of R84 and
R87, `diag` is when the channel's next diagnostic sample is due, absent in CONFIG. -/
structure Chan where
  charac   : Option Charac := none
  command  : Nat := 0
  drive    : Nat := 0
  measured : Nat := 0
  forced   : Bool := false
  openHold : Option Nat := none
  offHold  : Option Nat := none
  diag     : Option Nat := none
deriving DecidableEq, Repr

/-- Supply states, coded 0 and 1 (R90, R92). -/
inductive Supply where
  | normal | low
deriving DecidableEq, Repr

/-- The Valve Output Stage and Supply Monitor (R77, R89, R90). -/
structure ValveOut where
  chan       : Vector Chan 14 := .replicate 14 {}
  pLow       : Nat := 120
  pOk        : Nat := 150
  supply     : Supply := .low
  supplyHold : Option Nat := none
deriving DecidableEq, Repr

/-! ### Shift Controller (chapters 06, 07) -/

/-- A gear table entry (R93). -/
structure GearEntry where
  isSet   : Bool := false
  enabled : Bool := false
  speed   : Fin 4 := 0
  range   : Fin 3 := 0
  ratio   : Nat := 0
  pLock   : Nat := 0
deriving DecidableEq, Repr

/-- Phases, coded 0..4 in the driveline record (R110); a step's label is one of the last four (R101). -/
inductive Phase where
  | none | fill | torque | inertia | lock
deriving DecidableEq, Repr

/-- End conditions, coded 0..2 (R101). -/
inductive EndCond where
  | time | filled | synced
deriving DecidableEq, Repr

/-- Action types, coded 0..4 (R102). -/
inductive ActionType where
  | hold | step | ramp | fill | dump
deriving DecidableEq, Repr

/-- A role's action in a step (R102). -/
structure Action where
  type : ActionType
  p    : Nat
deriving DecidableEq, Repr

/-- A profile step (R101). -/
structure ProfileStep where
  label    : Phase
  endCond  : EndCond
  duration : Nat
  onA      : Action
  offA     : Action
  onB      : Action
  offB     : Action
deriving DecidableEq, Repr

/-- Bases of the gear window, coded 0..3 (R105). -/
inductive Basis where
  | none | field | road | unverified
deriving DecidableEq, Repr

/-- The gear window (R105); G_low is always 1. -/
structure GearWindow where
  gHigh      : Nat := 0
  reverseCap : Nat := 0
  basis      : Basis := .none
  faultCap   : Bool := false
  time       : Nat := 0
deriving DecidableEq, Repr

/-- Shift states, coded 0..4 (R110). -/
inductive ShiftState where
  | idle | pending | stepping | recovering | aborting
deriving DecidableEq, Repr

/-- Shift kinds of the driveline record, coded 0..5 (R110). -/
inductive ShiftKind where
  | none | speed | range | shuttle | engage | disengage
deriving DecidableEq, Repr

/-- Shift senses, coded 0..2 (R110). -/
inductive Sense where
  | none | up | down
deriving DecidableEq, Repr

/-- The driveline record (R110). -/
structure Driveline where
  time      : Nat := 0
  dir       : Dir := .n
  gear      : Nat := 0
  state     : ShiftState := .idle
  kind      : ShiftKind := .none
  sense     : Sense := .none
  phase     : Phase := .none
  step      : Nat := 0
  tgtDir    : Dir := .n
  tgtGear   : Nat := 0
  above     : Bool := false
deriving DecidableEq, Repr

/-- Requested kinds of a queue entry, coded 0 and 1 (R113). -/
inductive EntryKind where
  | gear | shuttle
deriving DecidableEq, Repr

/-- A shift queue entry (R113). -/
structure ShiftEntry where
  kind : EntryKind
  gear : Nat
  dir  : Dir
  time : Nat
deriving DecidableEq, Repr

/-- A running shift or recovery: the previous position and the target (R120), the profile's id, the clutches
bound to the four roles (R98), the running step with its entry time, applied duration in ms (R124), entry
pressures of the nine clutches (R122) and sync count (R125). In RECOVERING `entry` is the recovery's entry time
and `entryP` the pressures its ramp starts from (R128). -/
structure ShiftRun where
  prevDir  : Dir
  prevGear : Nat
  tgtDir   : Dir
  tgtGear  : Nat
  profile  : Option (Fin 8)
  onA      : Option (Fin 9)
  offA     : Option (Fin 9)
  onB      : Option (Fin 9)
  offB     : Option (Fin 9)
  step     : Nat
  entry    : Nat
  applied  : Nat
  entryP   : Vector Nat 9
  sync     : Nat
deriving DecidableEq, Repr

/-- The Shift Controller: its tables (R93, R100, R101), parameters (R112), gear window, driveline record, queue,
running shift, modulation timer (R121), wait timers (R118), dump time (R130), the timeout entry whose condition
the recovery or abort in hand will end (R127 to R129) and the hold time of the locked-gear slip test (R131). -/
structure ShiftCtl where
  gears        : Vector GearEntry 12 := .replicate 12 {}
  profiles     : Vector (List ProfileStep) 8 := .replicate 8 []
  map          : Vector (Option (Fin 8)) 7 := .replicate 7 none
  kLoad        : Nat := 0
  pFillDetect  : Nat := 30
  wSync        : Nat := 50
  window       : GearWindow := {}
  pub          : Driveline := {}
  queue        : List ShiftEntry := []
  shift        : Option ShiftRun := none
  modDue       : Option Nat := none
  supplyWait   : Option Nat := none
  brakeWait    : Option Nat := none
  dump         : Option Nat := none
  timeoutFault : Option (Fin 47) := none
  slipHold     : Option Nat := none
deriving DecidableEq, Repr

/-! ### Front Drive Manager (chapter 08) -/

/-- Front drive states, coded 0..3 (section 8.1). -/
inductive FrontState where
  | released | engaged | engageWait | forced
deriving DecidableEq, Repr

/-- Front drive modes, coded 0..2 (R137). -/
inductive FrontMode where
  | off | on | auto
deriving DecidableEq, Repr

/-- The wanted state, coded 0..2 (R143). -/
inductive Want where
  | engage | release | keep
deriving DecidableEq, Repr

/-- Which guard held a change back, coded 0..2 (R144). -/
inductive Guard where
  | none | dwell | phase
deriving DecidableEq, Repr

/-- The Front Drive Manager: its record (R137), thresholds (R139), slip hold time (R142) and wait timer (R146). -/
structure FrontDrive where
  changeTime   : Nat := 0
  state        : FrontState := .forced
  prev         : FrontState := .forced
  mode         : FrontMode := .auto
  want         : Want := .keep
  blocked      : Guard := .none
  causeConfig  : Bool := true
  causeSupply  : Bool := false
  causeOutput  : Bool := false
  causeLink    : Bool := false
  slipDemand   : Bool := false
  waitStart    : Nat := 0
  vOn          : Nat := 3900
  vOff         : Nat := 4400
  vCheck       : Nat := 1500
  s4wd         : Nat := 150
  aTurn        : Nat := 250
  leadLow      : Nat := 950
  leadHigh     : Nat := 1100
  slipHold     : Option Nat := none
  wait         : Option Nat := none
deriving DecidableEq, Repr

/-! ### Hitch Controller (chapter 09) -/

/-- Hitch states, coded 0..6 (section 9.1). -/
inductive HitchState where
  | lockedOut | control | headland | transport | shock | held | stopped
deriving DecidableEq, Repr

/-- The two hitch valves, coded 0 and 1 in the detail code of HITCH_STALL (R174). -/
inductive HitchValve where
  | raise | lower
deriving DecidableEq, Repr

/-- The stall reference (R174). -/
structure StallRef where
  time  : Nat
  pos   : Nat
  valve : HitchValve
deriving DecidableEq, Repr

/-- CFG_HITCH settings with their power-on values (R154). -/
structure HitchCfg where
  dMax   : Nat := 3000
  db     : Nat := 10
  gain   : Nat := 16
  vMax   : Nat := 600
  vDrop  : Nat := 300
  pUp    : Nat := 900
  sLim   : Nat := 200
  tShock : Nat := 400
deriving DecidableEq, Repr

/-- The Hitch Controller: the hitch record (R152), the items the record does not carry, and the settings. -/
structure Hitch where
  changeTime    : Nat := 0
  state         : HitchState := .lockedOut
  ret           : HitchState := .lockedOut
  causeRequest  : Bool := false
  causeSupply   : Bool := false
  causeLink     : Bool := false
  holdPending   : Bool := false
  stopPosition  : Bool := false
  stopStall     : Bool := false
  stopOutput    : Bool := false
  lever         : Nat := 0
  leverHeld     : Bool := false
  mix           : Nat := 0
  slipLimiting  : Bool := false
  pos           : Nat := 0
  posValid      : Bool := false
  draft         : Int := 0
  draftValid    : Bool := false
  raiseCmd      : Nat := 0
  lowerCmd      : Nat := 0
  prev          : HitchState := .lockedOut
  dropRate      : Nat := 0
  heldDraft     : Option Int := none
  shockTimer    : Option Nat := none
  stall         : Option StallRef := none
  reached       : Bool := false
  raiseForced   : Bool := false
  lowerForced   : Bool := false
  cfg           : HitchCfg := {}
deriving DecidableEq, Repr

/-! ### Trailer Brake Controller (chapter 10) -/

/-- Trailer modes, coded 0..2 (R177). -/
inductive TrailerMode where
  | park | field | road
deriving DecidableEq, Repr

/-- Line check states, coded 0..2 (R177). -/
inductive CheckState where
  | idle | stage1 | stage2
deriving DecidableEq, Repr

/-- Last line check outcomes, coded 0..3 (R177). -/
inductive CheckOutcome where
  | none | passed | failed | aborted
deriving DecidableEq, Repr

/-- Supplementary line states, coded 0..2 (R185). -/
inductive SuppState where
  | vented | charging | charged
deriving DecidableEq, Repr

/-- Pre-brake states, coded 0..2 (R189). -/
inductive PreBrake where
  | off | active | runOut
deriving DecidableEq, Repr

/-- The brake record (R177). -/
structure BrakeRecord where
  time         : Nat := 0
  mode         : TrailerMode := .park
  present      : Bool := false
  pPedal       : Nat := 0
  pedalValid   : Bool := false
  braking      : Bool := false
  hand         : Nat := 0
  verified     : Bool := false
  check        : CheckState := .idle
  outcome      : CheckOutcome := .none
  pCmd         : Nat := 0
  ctrl         : Nat := 0
  ctrlValid    : Bool := false
  supp         : SuppState := .vented
  suppP        : Nat := 0
  suppValid    : Bool := false
  chargeOpen   : Bool := false
  preBrake     : PreBrake := .off
  policyOn     : Bool := false
deriving DecidableEq, Repr

/-- The Trailer Brake Controller. `cur` is the record as the TBC is forming it, `pub` the record last published
(they differ only inside an event); the brake curve (R180), the settings (R179), the charge window timer (R186),
line check timer, reference and held command (R191), run-out timer (R189), low hold time (R187) and deviation
hold time (R188). -/
structure TrailerBrake where
  cur       : BrakeRecord := {}
  pub       : BrakeRecord := {}
  curve     : List (Nat × Nat) := []
  pBrakeOn  : Nat := 50
  pPre      : Nat := 150
  pSafe     : Nat := 600
  charge    : Option Nat := none
  stage     : Option Nat := none
  reference : Nat := 0
  heldCmd   : Nat := 0
  runOut    : Option Nat := none
  lowHold   : Option Nat := none
  devHold   : Option Nat := none
deriving DecidableEq, Repr

/-! ### Fault Table (chapter 11) -/

/-- States of a fault entry, coded 0..2 (R196). -/
inductive EntryState where
  | clear | active | latched
deriving DecidableEq, Repr

/-- A fault entry (R196). -/
structure FaultEntry where
  state  : EntryState := .clear
  count  : Nat := 0
  first  : Nat := 0
  last   : Nat := 0
  detail : Word16 := 0#16
deriving DecidableEq, Repr

/-! ### The part -/

/-- The whole part. `time` is part time in microseconds since power-on; `pending` is the queue of the commands
that wait, first in, first out; `undelivered` counts the brake record publications of the event in hand that
the SC and the FDM have not yet taken (the model's own field, 0 between steps; log entry 4). -/
structure State where
  time        : Nat := 0
  pending     : List Instr := []
  lp          : LinkPort := {}
  pc          : PartConfig := {}
  mu          : Measure := {}
  me          : Motion := {}
  vo          : ValveOut := {}
  sc          : ShiftCtl := {}
  fdm         : FrontDrive := {}
  hc          : Hitch := {}
  tbc         : TrailerBrake := {}
  ft          : Vector FaultEntry 47 := .replicate 47 {}
  undelivered : Nat := 0
deriving DecidableEq, Repr

/-- The part right after a power-on reset (R26), with no command waiting. DESIGN CHOICE, unsafe, for the items that
log entry 9 names. -/
def State.reset : State := {}

end Sys2Proof.Machine
end

