-- ==== Sys2Proof/Machine/Operands.lean ====
section
/-! DEFINITION. The operand forms of the commands: codes of every enumeration in both directions (R8), the
numbers of channels, inputs, roles and fault entries, the clutches of a gear, and clamping (R1). -/

namespace Sys2Proof.Machine

open Sys2Proof

/-! ### Numbers -/

/-- A value clamped to a signed range (R1). -/
def clampI (lo hi x : Int) : Int := max lo (min hi x)

/-- A value lies in an unsigned range. -/
def inRange (lo hi x : Nat) : Bool := decide (lo ≤ x ∧ x ≤ hi)

/-- A value lies in a signed range. -/
def inRangeI (lo hi x : Int) : Bool := decide (lo ≤ x ∧ x ≤ hi)

/-- The part time shown for an event at microsecond time `t` (chapter 00, "Time"). -/
def stamp (t : Nat) : Nat := t / Config.ms % Config.wrap16

/-! ### Pins and channels -/

/-- Channel codes (R76). -/
def chanIdx : Channel → Fin 14
  | .s1 => 0 | .s2 => 1 | .s3 => 2 | .s4 => 3 | .l => 4 | .m => 5 | .h => 6 | .f => 7 | .r => 8
  | .raise => 9 | .lower => 10 | .frontRelease => 11 | .trlCtrl => 12 | .trlSupp => 13

/-- Pulse input codes (R61). -/
def pulseIdx : PulseIn → Fin 4
  | .input => 0 | .output => 1 | .front => 2 | .radar => 3

/-- The channel of a clutch: clutch codes 0..8 are channel codes (section 6.1). -/
def clutchChan (c : Fin 9) : Fin 14 := ⟨c.val, by omega⟩

/-- The pressure role of a clutch (R33, R57). -/
def clutchRole (c : Fin 9) : Fin 16 := ⟨c.val, by omega⟩

/-- The channels RAISE, LOWER, FRONT_RELEASE, TRL_CTRL and TRL_SUPP (R76). -/
def chRaise : Fin 14 := 9
def chLower : Fin 14 := 10
def chFront : Fin 14 := 11
def chCtrl : Fin 14 := 12
def chSupp : Fin 14 := 13

/-- How a channel forms its current (R76). -/
inductive ChanForm where
  | clutch | hitch | onOff
deriving DecidableEq, Repr

/-- The characteristic form of a channel (R76). -/
def chanForm (i : Fin 14) : ChanForm :=
  if i = chRaise ∨ i = chLower then .hitch else if i = chFront ∨ i = chSupp then .onOff else .clutch

/-- The largest command of a channel (R76); an on/off command is 0 or 1. -/
def chanMax (i : Fin 14) : Nat :=
  if i = chRaise ∨ i = chLower then 1000
  else if i = chFront ∨ i = chSupp then 1
  else if i = chCtrl then 2000
  else Config.pClutchMax

/-! ### Roles (R57) -/

def roleSupply : Fin 16 := 9
def roleCtrl : Fin 16 := 10
def roleSupp : Fin 16 := 11
def rolePedalL : Fin 16 := 12
def rolePedalR : Fin 16 := 13
def rolePos : Fin 16 := 14
def roleSteer : Fin 16 := 15

/-- Lower bound of a role's range (R57). -/
def roleLow (r : Fin 16) : Int := if r = roleSteer then -600 else 0

/-- Upper bound of a role's range (R57). -/
def roleHigh (r : Fin 16) : Int :=
  if r = roleSteer then 600
  else if r = rolePos then 1000
  else if r = roleSupply then 300
  else if r.val ≤ 8 then 250
  else 2000

/-! ### Fault identities (R200) -/

def fLinkLost : Fin 47 := 0
def fEngineStale : Fin 47 := 1
def fSensorRange (r : Fin 16) : Fin 47 := ⟨2 + r.val, by omega⟩
def fScanStale : Fin 47 := 18
def fDraftInvalid : Fin 47 := 19
def fInput : Fin 47 := 20
def fFront : Fin 47 := 21
def fRadar : Fin 47 := 22
def fOutput (c : Fin 14) : Fin 47 := ⟨23 + c.val, by omega⟩
def fSupplyLow : Fin 47 := 37
def fFillTimeout : Fin 47 := 38
def fSyncTimeout : Fin 47 := 39
def fRecoveryFailed : Fin 47 := 40
def fClutchSlip : Fin 47 := 41
def fHitchStall : Fin 47 := 42
def fCtrlDeviation : Fin 47 := 43
def fSuppLow : Fin 47 := 44
def fSuppCharge : Fin 47 := 45
def fLineCheck : Fin 47 := 46

/-- The output channel of an OUTPUT_FAULT entry (R200). -/
def faultChannel (i : Fin 47) : Option (Fin 14) :=
  if h : 23 ≤ i.val ∧ i.val ≤ 36 then some ⟨i.val - 23, by omega⟩ else none

/-- Blocking classes, coded 0..5 in this order (R199). -/
inductive FaultClass where
  | gearbox | hitch | front | trailer | none | all
deriving DecidableEq, Repr

/-! ### Codes that replies and notices carry (R8) -/

def Status.code : Status → Byte
  | .ok => 0 | .okClamped => 1 | .okMerged => 2 | .okQueued => 3 | .refusedState => 4 | .refusedRange => 5
  | .refusedLocked => 6 | .refusedFault => 7 | .refusedQueueFull => 8 | .refusedCondition => 9
  | .refusedConfig => 10 | .refusedUnknown => 11 | .linkError => 12

def Block.code : Block → Nat
  | .lp => 0 | .pc => 1 | .mu => 2 | .me => 3 | .vo => 4 | .sc => 5 | .fdm => 6 | .hc => 7 | .tbc => 8 | .ft => 9

def NoticeKind.code : NoticeKind → Nat
  | .shiftDone => 0 | .shiftClamped => 1 | .shiftDropped => 2 | .shiftRecovered => 3 | .shiftNeutraled => 4
  | .windowChanged => 5 | .aboveWindow => 6 | .frontChanged => 7 | .frontWaitExpired => 8 | .hitchState => 9
  | .hitchShock => 10 | .supplyChanged => 11 | .trailerModeChanged => 12 | .lineCheckResult => 13
  | .faultRaised => 14 | .faultEnded => 15 | .linkRestored => 16 | .scanDone => 17

def PartState.code : PartState → Nat
  | .config => 0 | .run => 1

def LinkState.code : LinkState → Nat
  | .up => 0 | .lost => 1 | .restoredWait => 2

def Policy.code : Policy → Nat
  | .hold => 0 | .safe => 1

def ScanMode.code : ScanMode → Nat
  | .continuous => 0 | .single => 1 | .track => 2

def RangeEnd.code : RangeEnd → Nat
  | .low => 0 | .high => 1

def Dir.code : Dir → Nat
  | .f => 0 | .r => 1 | .n => 2

def Supply.code : Supply → Nat
  | .normal => 0 | .low => 1

def Phase.code : Phase → Nat
  | .none => 0 | .fill => 1 | .torque => 2 | .inertia => 3 | .lock => 4

def Basis.code : Basis → Nat
  | .none => 0 | .field => 1 | .road => 2 | .unverified => 3

def ShiftState.code : ShiftState → Nat
  | .idle => 0 | .pending => 1 | .stepping => 2 | .recovering => 3 | .aborting => 4

def ShiftKind.code : ShiftKind → Nat
  | .none => 0 | .speed => 1 | .range => 2 | .shuttle => 3 | .engage => 4 | .disengage => 5

def Sense.code : Sense → Nat
  | .none => 0 | .up => 1 | .down => 2

def EntryKind.code : EntryKind → Nat
  | .gear => 0 | .shuttle => 1

def FrontState.code : FrontState → Nat
  | .released => 0 | .engaged => 1 | .engageWait => 2 | .forced => 3

def FrontMode.code : FrontMode → Nat
  | .off => 0 | .on => 1 | .auto => 2

def Want.code : Want → Nat
  | .engage => 0 | .release => 1 | .keep => 2

def Guard.code : Guard → Nat
  | .none => 0 | .dwell => 1 | .phase => 2

def HitchState.code : HitchState → Nat
  | .lockedOut => 0 | .control => 1 | .headland => 2 | .transport => 3 | .shock => 4 | .held => 5 | .stopped => 6

def HitchValve.code : HitchValve → Nat
  | .raise => 0 | .lower => 1

def TrailerMode.code : TrailerMode → Nat
  | .park => 0 | .field => 1 | .road => 2

def CheckState.code : CheckState → Nat
  | .idle => 0 | .stage1 => 1 | .stage2 => 2

def CheckOutcome.code : CheckOutcome → Nat
  | .none => 0 | .passed => 1 | .failed => 2 | .aborted => 3

/-- The outcome as LINE_CHECK_RESULT codes it (R177). -/
def CheckOutcome.noticeCode : CheckOutcome → Nat
  | .none => 0 | .passed => 0 | .failed => 1 | .aborted => 2

def SuppState.code : SuppState → Nat
  | .vented => 0 | .charging => 1 | .charged => 2

def PreBrake.code : PreBrake → Nat
  | .off => 0 | .active => 1 | .runOut => 2

def EntryState.code : EntryState → Nat
  | .clear => 0 | .active => 1 | .latched => 2

def FaultClass.code : FaultClass → Nat
  | .gearbox => 0 | .hitch => 1 | .front => 2 | .trailer => 3 | .none => 4 | .all => 5

/-- Reasons of SHIFT_DROPPED, coded 0..4 in this order (R15). -/
inductive DropReason where
  | supply | braking | overspeed | speed | link
deriving DecidableEq, Repr

def DropReason.code : DropReason → Nat
  | .supply => 0 | .braking => 1 | .overspeed => 2 | .speed => 3 | .link => 4

/-! ### Codes that requests carry (R8): absent for a code beyond the list -/

def decBool : Nat → Option Bool
  | 0 => some false | 1 => some true | _ => none

def decPolicy : Nat → Option Policy
  | 0 => some .hold | 1 => some .safe | _ => none

def decScanMode : Nat → Option ScanMode
  | 0 => some .continuous | 1 => some .single | 2 => some .track | _ => none

/-- An engage direction: F or R (R114). -/
def decEngageDir : Nat → Option Dir
  | 0 => some .f | 1 => some .r | _ => none

/-- A step's phase label, coded 0..3 (R101). -/
def decLabel : Nat → Option Phase
  | 0 => some .fill | 1 => some .torque | 2 => some .inertia | 3 => some .lock | _ => none

def decEndCond : Nat → Option EndCond
  | 0 => some .time | 1 => some .filled | 2 => some .synced | _ => none

def decAction : Nat → Option ActionType
  | 0 => some .hold | 1 => some .step | 2 => some .ramp | 3 => some .fill | 4 => some .dump | _ => none

def decFrontMode : Nat → Option FrontMode
  | 0 => some .off | 1 => some .on | 2 => some .auto | _ => none

def decTrailerMode : Nat → Option TrailerMode
  | 0 => some .park | 1 => some .field | 2 => some .road | _ => none

/-- HITCH_MODE's modes, coded 0..2 (R157). -/
inductive HitchMode where
  | work | headland | transport
deriving DecidableEq, Repr

def decHitchMode : Nat → Option HitchMode
  | 0 => some .work | 1 => some .headland | 2 => some .transport | _ => none

/-- READ's item selectors, coded 0..9 (R13). -/
inductive ReadItem where
  | snapshot | motion | engine | driveline | window | hitch | front | brake | fault | queue
deriving DecidableEq, Repr

def decReadItem : Nat → Option ReadItem
  | 0 => some .snapshot | 1 => some .motion | 2 => some .engine | 3 => some .driveline | 4 => some .window
  | 5 => some .hitch | 6 => some .front | 7 => some .brake | 8 => some .fault | 9 => some .queue | _ => none

/-- The chop delay of a code, in microseconds (R39). -/
def chopDelayTime : Nat → Nat
  | 0 => 0 | 1 => 500 | 2 => 1000 | _ => 2000

/-! ### Gears (section 6.1) -/

/-- The gear table entry of gear `g`; numbers outside 1..12 read as an unset entry (R93). -/
def gearAt (gs : Vector GearEntry 12) (g : Nat) : GearEntry :=
  if g = 0 then {} else (gs[g - 1]?).getD {}

/-- Gear `g` is in the enabled set (R93). -/
def gearEnabled (gs : Vector GearEntry 12) (g : Nat) : Bool :=
  (gearAt gs g).isSet && (gearAt gs g).enabled

/-- The clutch code of a gear's speed clutch (section 6.1). -/
def speedClutch (e : GearEntry) : Fin 9 := ⟨e.speed.val, by omega⟩

/-- The clutch code of a gear's range clutch (section 6.1). -/
def rangeClutch (e : GearEntry) : Fin 9 := ⟨4 + e.range.val, by omega⟩

/-- The clutch code of a direction; neutral has none (R95). -/
def dirClutch : Dir → Option (Fin 9)
  | .f => some 7 | .r => some 8 | .n => none

/-- The opposite direction (R114). -/
def Dir.opposite : Dir → Dir
  | .f => .r | .r => .f | .n => .n

/-- The engaged set of gear `g` in direction `d`, empty in neutral (R95). -/
def engagedSet (gs : Vector GearEntry 12) (d : Dir) (g : Nat) : List (Fin 9) :=
  match dirClutch d with
  | none => []
  | some c => [speedClutch (gearAt gs g), rangeClutch (gearAt gs g), c]

/-- The nine clutch commands of a locked position: P_lock in the engaged set, 0 elsewhere (R95, R111). -/
def lockedCommands (gs : Vector GearEntry 12) (d : Dir) (g : Nat) : Vector Nat 9 :=
  .ofFn fun c => if c ∈ engagedSet gs d g then (gearAt gs g).pLock else 0

/-- The highest enabled gear at or below `g` (R96). -/
def highestEnabled (gs : Vector GearEntry 12) : Nat → Option Nat
  | 0 => none
  | g + 1 => if gearEnabled gs (g + 1) then some (g + 1) else highestEnabled gs g

/-- Resolution of a gear number against a cap (R96). -/
def resolveGear (gs : Vector GearEntry 12) (cap g : Nat) : Option Nat := highestEnabled gs (min g cap)

/-- A vector element by a number that may lie outside the vector. -/
def vget {α : Type} {n : Nat} (v : Vector α n) (i : Nat) (d : α) : α := (v[i]?).getD d

end Sys2Proof.Machine
end

