-- ==== Sys2Proof/Machine/Flags.lean ====
section
/-! DEFINITION. The flags the part computes: levels and sources of notices (R15, R200), ATTN (R20), the fixed
columns of the fault list (R200), blocking (R199), the stale indication (R60) and the part summary (R2, R10). -/

namespace Sys2Proof.Machine

open Sys2Proof

/-- The level of a notice kind; FAULT_RAISED takes its fault's level instead (R15, R16). -/
def kindLevel : NoticeKind → Nat
  | .shiftDone => 0 | .shiftClamped => 1 | .shiftDropped => 2 | .shiftRecovered => 2 | .shiftNeutraled => 3
  | .windowChanged => 1 | .aboveWindow => 2 | .frontChanged => 0 | .frontWaitExpired => 1 | .hitchState => 0
  | .hitchShock => 1 | .supplyChanged => 2 | .trailerModeChanged => 0 | .lineCheckResult => 1
  | .faultRaised => 0 | .faultEnded => 0 | .linkRestored => 2 | .scanDone => 0

/-- The source block of a notice kind (R15). -/
def kindSource : NoticeKind → Block
  | .shiftDone | .shiftClamped | .shiftDropped | .shiftRecovered | .shiftNeutraled => .sc
  | .windowChanged | .aboveWindow => .sc
  | .frontChanged | .frontWaitExpired => .fdm
  | .hitchState | .hitchShock => .hc
  | .supplyChanged => .vo
  | .trailerModeChanged | .lineCheckResult => .tbc
  | .faultRaised | .faultEnded => .ft
  | .linkRestored => .lp
  | .scanDone => .mu

/-- The level of a fault identity (R200). -/
def faultLevel (i : Fin 47) : Nat :=
  if i = fLinkLost ∨ i = fScanStale ∨ (23 ≤ i.val ∧ i.val ≤ 36) ∨ i = fRecoveryFailed ∨ i = fClutchSlip
      ∨ i = fCtrlDeviation ∨ i = fSuppLow then 3
  else if i = fEngineStale ∨ i = fDraftInvalid then 1
  else 2

/-- The class of a fault identity (R200). -/
def faultClass (i : Fin 47) : FaultClass :=
  if (2 ≤ i.val ∧ i.val ≤ 10) ∨ i = fInput ∨ (23 ≤ i.val ∧ i.val ≤ 31) ∨ (38 ≤ i.val ∧ i.val ≤ 41) then .gearbox
  else if i = fSensorRange rolePos ∨ i = fOutput chRaise ∨ i = fOutput chLower ∨ i = fHitchStall then .hitch
  else if i = fOutput chFront then .front
  else if i = fOutput chCtrl ∨ i = fOutput chSupp ∨ i = fCtrlDeviation ∨ i = fLineCheck then .trailer
  else if i = fScanStale then .all
  else .none

/-- The blocking flag of a fault identity (R200). -/
def faultBlocking (i : Fin 47) : Bool :=
  decide (i = fSensorRange rolePos ∨ i = fScanStale ∨ i = fInput ∨ (23 ≤ i.val ∧ i.val ≤ 36)
    ∨ (38 ≤ i.val ∧ i.val ≤ 43) ∨ i = fLineCheck)

/-- The three entries that act through the gear window (R106, R198). -/
def isTrailerEntry (i : Fin 47) : Bool :=
  decide (i = fCtrlDeviation ∨ i = fSuppLow ∨ i = fSuppCharge)

/-- An entry is ACTIVE or LATCHED. -/
def FaultEntry.stands (e : FaultEntry) : Bool := decide (e.state ≠ .clear)

/-- The lowest-numbered blocking entry of a class, or of class ALL, that is ACTIVE or LATCHED (R11, R199). -/
def blockingEntry (ft : Vector FaultEntry 47) (cls : FaultClass) : Option (Fin 47) :=
  (List.finRange 47).find? fun i =>
    faultBlocking i && (ft[i]).stands && decide (faultClass i = cls ∨ faultClass i = .all)

/-- How many entries are ACTIVE (R204). -/
def countActive (ft : Vector FaultEntry 47) : Nat := ft.toList.countP fun e => decide (e.state = .active)

/-- How many entries are LATCHED (R204). -/
def countLatched (ft : Vector FaultEntry 47) : Nat := ft.toList.countP fun e => decide (e.state = .latched)

/-- The stale indication: SCAN_STALE is ACTIVE (R60). -/
def State.isStale (s : State) : Bool := decide ((s.ft[fScanStale]).state = .active)

/-- A notice asserts ATTN at a threshold (R20). -/
def attnNotice (threshold : Nat) (n : Notice) : Bool := decide (n.level = 3 ∨ threshold ≤ n.level)

/-- ATTN of a queue at a threshold (R20). -/
def attnOf (threshold : Nat) (q : List Notice) : Bool := q.any (attnNotice threshold)

/-- The part is in RUN. -/
def State.inRun (s : State) : Bool := decide (s.pc.part = .run)

/-- The part time as the millisecond counter shows it (chapter 00, "Time"). -/
def State.now (s : State) : Nat := stamp s.time

/-- The link state is LOST or RESTORED_WAIT (R2). -/
def State.linkDown (s : State) : Bool := decide (s.lp.link ≠ .up)

/-- The part summary byte (R2, R10). -/
def partSummary (s : State) : Byte :=
  BitVec.ofNat 8 (32 * (decide (0 < countLatched s.ft)).toNat + 16 * (decide (0 < countActive s.ft)).toNat
    + 8 * s.linkDown.toNat + 4 * s.lp.lost.toNat + 2 * s.lp.attn.toNat + s.inRun.toNat)

/-- The slot holds a STATUS reply that carried the notices-lost flag (R12, R19). -/
def slotCarriesLost (r : ReplyFrame) : Bool :=
  decide (r.kind = 2#8 ∧ r.status = 0#8 ∧ r.body.getD 7 0#8 = 1#8)

/-- A timer that is running has reached its expiry. DESIGN CHOICE, unsafe (log entry 6). -/
def State.due (s : State) (t : Option Nat) : Bool :=
  match t with
  | some d => decide (d ≤ s.time)
  | none => false

/-- A hold time is present and `d` or more have passed since it. -/
def State.heldFor (s : State) (t : Option Nat) (d : Nat) : Bool :=
  match t with
  | some h => decide (h + d ≤ s.time)
  | none => false

/-- A role of the snapshot last published is present, valid and not stale (R55, R60). -/
def State.roleOk (s : State) (r : Fin 16) : Bool :=
  (s.mu.snapshot.entries[r]).present && (s.mu.snapshot.entries[r]).valid && !s.isStale

/-- The value of a role of the snapshot last published, or 0 if it is absent or invalid there (R92, R200). -/
def State.roleValueOr0 (s : State) (r : Fin 16) : Nat :=
  if (s.mu.snapshot.entries[r]).present && (s.mu.snapshot.entries[r]).valid then
    (s.mu.snapshot.entries[r]).value.toNat else 0

/-- The draft reads valid: there is a result, the latest is valid and SCAN_STALE is not ACTIVE (R44). -/
def State.draftOk (s : State) : Bool :=
  match s.mu.draft.latest with
  | some (_, v) => v && !s.isStale
  | none => false

/-- The effective torque of the engine record (R74). -/
def EngineRecord.effTorque (e : EngineRecord) : Nat := if e.stale then 1000 else e.torque

/-- The effective oil temperature of the engine record (R74). -/
def EngineRecord.effOil (e : EngineRecord) : Int := if e.stale then 20 else e.oil

/-- The driveline phase is TORQUE or INERTIA. -/
def Phase.handOver (p : Phase) : Bool := decide (p = .torque ∨ p = .inertia)

end Sys2Proof.Machine
end

