-- ==== Sys2Proof/Machine/Ops.lean ====
section
/-! DEFINITION. The operations every block shares: posting notices (R16, R17, R20), writing channels (R77 to R82),
the TBC's command and publication (R178, R181, R182, R185, R189), publishing the driveline record (R110), the
gear window (R105 to R109) and the fault table's reports (R197, R198). -/

namespace Sys2Proof.Machine

open Sys2Proof

/-! ### Notices -/

/-- The lowest level present in the queue; 3 for an empty one (R17). -/
def lowestLevel (q : List Notice) : Nat := q.foldl (fun m n => min m n.level) 3

/-- The queue after a notice is offered, and whether a notice was lost (R17). -/
def offer (n : Notice) (q : List Notice) : List Notice × Bool :=
  if q.length < Config.noticeCap then (q ++ [n], false)
  else if lowestLevel q < n.level then
    (q.eraseP (fun m => decide (m.level = lowestLevel q)) ++ [n], true)
  else (q, true)

/-- ATTN evaluated again (R20). -/
def evalAttn (lp : LinkPort) : LinkPort := { lp with attn := attnOf lp.threshold lp.notices }

/-- A notice offered to the Link Port's queue (R17, R20). -/
def offerNotice (n : Notice) (lp : LinkPort) : LinkPort :=
  let q := offer n lp.notices
  evalAttn { lp with notices := q.1, lost := lp.lost || q.2, lostMarker := lp.lostMarker || q.2 }

/-- A block posts a notice of kind `k` at level `lvl` (R16). -/
def postAt (k : NoticeKind) (lvl v1 v2 : Nat) (s : State) : State :=
  let n : Notice := ⟨k, lvl, kindSource k, s.time, BitVec.ofNat 16 v1, BitVec.ofNat 16 v2⟩
  { s with lp := offerNotice n s.lp }

/-- A block posts a notice of kind `k` at the kind's level (R15, R16). -/
def post (k : NoticeKind) (v1 v2 : Nat) (s : State) : State := postAt k (kindLevel k) v1 v2 s

/-! ### Channels -/

/-- The current a characteristic gives for a command (R79, R80, R81). -/
def characCurrent (form : ChanForm) (c : Charac) (cmd : Nat) : Nat :=
  if cmd = 0 then 0
  else match form with
    | .clutch => min (c.a + cmd * c.b / 100) c.c
    | .hitch => c.a + cmd * (c.b - c.a) / 1000
    | .onOff => c.a

/-- The drive current of channel `i` (R77, R81). -/
def driveCurrent (part : PartState) (supply : Supply) (i : Fin 14) (ch : Chan) : Nat :=
  if part = .config ∨ ch.forced = true ∨ (i = chFront ∧ supply = .low) then 0
  else match ch.charac with
    | none => 0
    | some c => characCurrent (chanForm i) c ch.command

/-- One channel replaced. -/
def modChan (i : Fin 14) (g : Chan → Chan) (s : State) : State :=
  { s with vo := { s.vo with chan := s.vo.chan.set i (g s.vo.chan[i]) } }

/-- A channel's drive current formed again (R77). -/
def formDrive (i : Fin 14) (s : State) : State :=
  modChan i (fun ch => { ch with drive := driveCurrent s.pc.part s.vo.supply i ch }) s

/-- An owner writes a channel's command: clamped, stored, and the drive current formed (R79, R82). -/
def writeChan (i : Fin 14) (cmd : Nat) (s : State) : State :=
  formDrive i (modChan i (fun ch => { ch with command := min cmd (chanMax i) }) s)

/-- The commands of the nine clutch channels as last written. -/
def clutchCommands (s : State) : Vector Nat 9 := .ofFn fun c => (s.vo.chan[clutchChan c]).command

/-- The SC writes the nine clutch commands, each clamped to P_clutch_max (R111). -/
def writeClutches (v : Vector Nat 9) (s : State) : State :=
  (List.finRange 9).foldl (fun s c => writeChan (clutchChan c) (min v[c] Config.pClutchMax) s) s

/-! ### The trailer control line (chapter 10) -/

/-- Interpolation from point (p, c), whose pedal is at or below `x` (R181). -/
def curveFrom (x : Nat) : Nat → Nat → List (Nat × Nat) → Nat
  | _, c, [] => c
  | p, c, (p', c') :: rest =>
    if p' ≤ x then curveFrom x p' c' rest
    else ((c : Int) + (((c' : Int) - c) * ((x : Int) - p)).tdiv ((p' : Int) - p)).toNat

/-- The brake curve (R181). -/
def brakeCurve (pts : List (Nat × Nat)) (x : Nat) : Nat :=
  match pts with
  | [] => 0
  | (p, c) :: rest => if x < p then 0 else curveFrom x p c rest

/-- A line check is running. -/
def BrakeRecord.checking (b : BrakeRecord) : Bool := decide (b.check ≠ .idle)

/-- The control-line command (R182). -/
def controlCommand (pTrlMax : Nat) (t : TrailerBrake) : Nat :=
  let b := t.cur
  if b.mode = .park ∧ b.checking = false then pTrlMax
  else
    min pTrlMax
      (max (brakeCurve t.curve b.pPedal)
        (max (b.hand * pTrlMax / 1000)
          (max (if b.preBrake = .off then 0 else t.pPre)
            (max (if b.checking then Config.testPressure else 0) (if b.policyOn then t.pSafe else 0)))))

/-- The TBC publishes its record if any field has changed (R177). -/
def tbcPublish (s : State) : State :=
  if { s.tbc.cur with time := s.tbc.pub.time } = s.tbc.pub then s
  else
    { s with
      tbc := { s.tbc with cur := { s.tbc.cur with time := s.time }, pub := { s.tbc.cur with time := s.time } }
      undelivered := s.undelivered + 1 }

/-- The control-line command formed; a change of it discards the deviation hold time (R182, R188). -/
def tbcForm (s : State) : State :=
  let p := controlCommand s.pc.limits.pTrlMax s.tbc
  { s with tbc := { s.tbc with
      devHold := if p = s.tbc.cur.pCmd then s.tbc.devHold else none
      cur := { s.tbc.cur with pCmd := p } } }

/-- The end of every TBC event: P_cmd and the supplementary command are formed, both channels are written and the
record is published if it has changed (R178). -/
def tbcFinish (s : State) : State :=
  let s := tbcForm s
  let s := writeChan chCtrl s.tbc.cur.pCmd s
  let s := writeChan chSupp (if s.tbc.cur.supp = .vented then 0 else 1) s
  tbcPublish s

/-- The driveline record qualifies for pre-brake (R189). -/
def preBrakeQualifies (b : BrakeRecord) (d : Driveline) : Bool :=
  decide (b.mode = .road ∧ b.present = true ∧ d.state = .stepping
    ∧ (((d.kind = .speed ∨ d.kind = .range) ∧ d.sense = .down ∧ d.phase = .inertia) ∨ d.kind = .shuttle))

/-- Pre-brake tested against the driveline record as last published (R189). -/
def preBrakeTest (s : State) : State :=
  let t := s.tbc
  if preBrakeQualifies t.cur s.sc.pub then
    { s with tbc := { t with cur := { t.cur with preBrake := .active }, runOut := none } }
  else if t.cur.preBrake = .active then
    { s with tbc := { t with cur := { t.cur with preBrake := .runOut }, runOut := some (s.time + Config.runOutTime) } }
  else s

/-- The TBC takes a publication of the driveline record (R178, R189). -/
def tbcOnDriveline (s : State) : State := tbcFinish (preBrakeTest s)

/-! ### The driveline record and the gear window -/

/-- The SC publishes the driveline record if any field has changed (R110), and the TBC takes the publication at once,
also where an FT report made inside a TBC event has led to it (R178). DEDUCED, unsafe (log entry 31). -/
def scPublish (d : Driveline) (s : State) : State :=
  if { d with time := s.sc.pub.time } = s.sc.pub then s
  else tbcOnDriveline { s with sc := { s.sc with pub := { d with time := s.time } } }

/-- The value of above_window for a position and a window (R109). -/
def aboveWindow (d : Driveline) (gHigh : Nat) : Bool := decide (d.dir = .f ∧ gHigh < d.gear)

/-- above_window evaluated: the record is published with it (R109). -/
def evalAbove (s : State) : State :=
  scPublish { s.sc.pub with above := aboveWindow s.sc.pub s.sc.window.gHigh } s

/-- ABOVE_WINDOW posted when the flag has turned true since `before` (R109). -/
def postAbove (before : Bool) (s : State) : State :=
  if s.sc.pub.above && !before then post .aboveWindow s.sc.pub.gear s.sc.window.gHigh s else s

/-- Any of the three trailer entries is ACTIVE or LATCHED (R106). -/
def trailerFault (ft : Vector FaultEntry 47) : Bool :=
  (ft[fCtrlDeviation]).stands || (ft[fSuppLow]).stands || (ft[fSuppCharge]).stands

/-- The basis and its gear (R106). -/
def windowBasis (l : LimitSet) (b : BrakeRecord) : Basis × Nat :=
  if b.mode = .road then
    if b.present = true ∧ b.verified = false then (.unverified, l.gMaxUnverified) else (.road, l.gMaxRoad)
  else (.field, l.gMaxField)

/-- The window the inputs give at time `t` (R105, R106). -/
def windowOf (l : LimitSet) (b : BrakeRecord) (ft : Vector FaultEntry 47) (t : Nat) : GearWindow :=
  let basis := windowBasis l b
  { gHigh := if trailerFault ft then min basis.2 l.gMaxUnverified else basis.2
    reverseCap := l.rMax, basis := basis.1, faultCap := trailerFault ft, time := t }

/-- The SC computes the window, posting WINDOW_CHANGED when G_high or the reverse cap changes, or always when
`always` is set (START), and evaluates above_window (R105, R107, R109). -/
def scWindow (always : Bool) (s : State) : State :=
  let old := s.sc.window
  let w := windowOf s.pc.limits s.tbc.pub s.ft s.time
  let above := s.sc.pub.above
  let s := { s with sc := { s.sc with window := w } }
  let s := if always = true ∨ w.gHigh ≠ old.gHigh ∨ w.reverseCap ≠ old.reverseCap
    then post .windowChanged w.gHigh w.reverseCap s else s
  postAbove above (evalAbove s)

/-! ### The fault table -/

/-- One entry replaced. -/
def modFault (i : Fin 47) (e : FaultEntry) (s : State) : State := { s with ft := s.ft.set i e }

/-- The FT tells the SC of a change of one of the three trailer entries, which computes the window in RUN (R198). -/
def ftTell (i : Fin 47) (s : State) : State :=
  if isTrailerEntry i && s.inRun then scWindow false s else s

/-- A start report (R197). -/
def ftStart (i : Fin 47) (detail : Nat) (s : State) : State :=
  let e := s.ft[i]
  let d := BitVec.ofNat 16 detail
  match e.state with
  | .active => s
  | .clear =>
    ftTell i (postAt .faultRaised (faultLevel i) i.val detail
      (modFault i { state := .active, count := 1, first := s.time, last := s.time, detail := d } s))
  | .latched =>
    ftTell i (postAt .faultRaised (faultLevel i) i.val detail
      (modFault i { e with state := .active, count := min 255 (e.count + 1), last := s.time, detail := d } s))

/-- An end report (R198). -/
def ftEnd (i : Fin 47) (s : State) : State :=
  let e := s.ft[i]
  match e.state with
  | .active => ftTell i (post .faultEnded i.val e.count (modFault i { e with state := .latched, last := s.time } s))
  | .latched => s
  | .clear => s

/-- An entry made CLEAR with count, times and detail code 0 (R202). -/
def ftZero (i : Fin 47) (s : State) : State := modFault i {} s

/-- An optional timeout entry's condition ends (R117, R127 to R129, R132). -/
def ftEndOpt (i : Option (Fin 47)) (s : State) : State :=
  match i with
  | some i => ftEnd i s
  | none => s

end Sys2Proof.Machine
end

