-- ==== Sys2Proof/Machine/FrontOps.lean ====
section
/-! DEFINITION. What the Front Drive Manager does at its events (chapter 08): the change of state (R138), the
evaluation (R141 to R150), the wait expiry (R148) and the causes of FORCED (R149, R151). -/

namespace Sys2Proof.Machine

open Sys2Proof

/-- The FRONT_RELEASE command of a front drive state (R138). -/
def frontCommand : FrontState → Nat
  | .released => 1 | .engaged => 0 | .engageWait => 1 | .forced => 0

/-- A change of the front drive state (R138); entering ENGAGE_WAIT starts the wait timer (R146), any other
change discards it. -/
def fdmChange (new : FrontState) (s : State) : State :=
  let old := s.fdm.state
  let wait := decide (new = .engageWait)
  let s := { s with fdm := { s.fdm with
    prev := old, state := new, changeTime := s.time
    waitStart := if wait then s.time else 0
    wait := if wait then some (s.time + Config.frontWaitTime) else none } }
  post .frontChanged new.code old.code (writeChan chFront (frontCommand new) s)

/-- Slip demand and its hold time at a motion update (R142). -/
def fdmSlip (s : State) : State :=
  let m := s.me.pub
  if m.slipValid = true ∧ s.fdm.s4wd < m.slip then
    let since := s.fdm.slipHold.getD s.time
    { s with fdm := { s.fdm with
      slipHold := some since
      slipDemand := s.fdm.slipDemand || s.heldFor (some since) Config.slipDemandTime } }
  else { s with fdm := { s.fdm with slipHold := none, slipDemand := false } }

/-- The steer test (R143). -/
def steerTest (s : State) : Bool :=
  s.roleOk roleSteer && decide (s.fdm.aTurn < (s.mu.snapshot.entries[roleSteer]).value.natAbs)

/-- The want (R143). -/
def fdmWant (s : State) : Want :=
  let braking := s.tbc.pub.braking
  match s.fdm.mode with
  | .on => .engage
  | .off => if braking then .engage else .release
  | .auto =>
    if braking then .engage
    else if steerTest s then .release
    else if s.me.pub.vR < s.fdm.vOn then .engage
    else if s.fdm.slipDemand then .engage
    else if s.fdm.vOff < s.me.pub.vR then .release
    else .keep

/-- Which guard holds a change back, the dwell tested only where it applies (R144). -/
def fdmGuard (dwell : Bool) (s : State) : Guard :=
  if dwell && !s.heldFor (some s.fdm.changeTime) Config.dwellTime then .dwell
  else if s.sc.pub.phase.handOver then .phase
  else .none

/-- A change made when its guards allow it; otherwise the blocked field shows the guard (R144). -/
def fdmGuarded (dwell : Bool) (new : FrontState) (s : State) : State :=
  match fdmGuard dwell s with
  | .none => fdmChange new s
  | .dwell => { s with fdm := { s.fdm with blocked := .dwell } }
  | .phase => { s with fdm := { s.fdm with blocked := .phase } }

/-- The lead check (R147). -/
def leadCheck (s : State) : Bool :=
  decide (s.me.pub.vR < s.fdm.vCheck) ||
    (s.me.pub.leadValid && inRange s.fdm.leadLow s.fdm.leadHigh s.me.pub.lead)

/-- Any cause of FORCED is set (R149). -/
def FrontDrive.anyCause (f : FrontDrive) : Bool := f.causeConfig || f.causeSupply || f.causeOutput || f.causeLink

/-- The act of an evaluation by state, once the want is formed (R145, R146, R147, R150). -/
def fdmAct (s : State) : State :=
  let braking := s.tbc.pub.braking
  match s.fdm.state with
  | .released =>
    if braking then fdmChange .engaged s
    else if s.fdm.want = .engage then
      fdmGuarded true (if s.me.pub.vR < s.fdm.vCheck then .engaged else .engageWait) s
    else s
  | .engageWait =>
    if braking then fdmChange .engaged s
    else if s.fdm.want = .release then fdmChange .released s
    else if leadCheck s then fdmGuarded false .engaged s
    else s
  | .engaged => if s.fdm.want = .release then fdmGuarded true .released s else s
  | .forced =>
    if s.fdm.anyCause then s
    else fdmGuarded false (if braking = false ∧ s.fdm.want = .release then .released else .engaged) s

/-- An evaluation, at a motion update or at a publication of the brake record (R141). -/
def fdmEvaluate (motion : Bool) (s : State) : State :=
  let s := if motion then fdmSlip s else s
  let w := fdmWant s
  fdmAct { s with fdm := { s.fdm with want := w, blocked := .none } }

/-- The change to FORCED when a cause has been set (R149). -/
def fdmForce (s : State) : State :=
  if s.fdm.state = .forced then s else fdmChange .forced s

/-- The FDM takes a supply change (R149). -/
def fdmOnSupply (s : State) : State :=
  match s.vo.supply with
  | .low => fdmForce { s with fdm := { s.fdm with causeSupply := true } }
  | .normal => { s with fdm := { s.fdm with causeSupply := false } }

/-- The FDM is told that FRONT_RELEASE is forced (R149). -/
def fdmOnForced (s : State) : State := fdmForce { s with fdm := { s.fdm with causeOutput := true } }

/-- The FDM is told that FRONT_RELEASE is restored (R149). -/
def fdmOnRestored (s : State) : State := { s with fdm := { s.fdm with causeOutput := false } }

/-- The FDM takes a link loss (R151). -/
def fdmOnLoss (s : State) : State :=
  match s.lp.policy with
  | .hold => s
  | .safe => fdmForce { s with fdm := { s.fdm with causeLink := true } }

/-- The FDM is told to resume (R151). -/
def fdmOnResume (s : State) : State := { s with fdm := { s.fdm with causeLink := false } }

/-- The ENGAGE_WAIT timer expires (R148). -/
def fdmWaitExpiry (s : State) : State :=
  fdmChange .released
    (post .frontWaitExpired (if s.me.pub.leadValid then s.me.pub.lead else 0) 0 s)

end Sys2Proof.Machine
end

