-- ==== Sys2Proof/Machine/HitchOps.lean ====
section
/-! DEFINITION. What the Hitch Controller does at its events (chapter 09): the change of state (R153), holds (R169),
stops (R174 to R176), the position check (R158), the draft result (R159), the control law (R160 to R164), the
stall test (R174) and shocks (R165). -/

namespace Sys2Proof.Machine

open Sys2Proof

/-- The upper limit: the lower of P_up and P_hitch_upper_hard (section 9.1). -/
def upperLimit (s : State) : Nat := min s.hc.cfg.pUp s.pc.limits.pHitchUpperHard

/-- Both valve commands written, first the one that becomes 0 (R153). -/
def hcWrite (raise lower : Nat) (s : State) : State :=
  let s := { s with hc := { s.hc with raiseCmd := raise, lowerCmd := lower } }
  if raise = 0 then writeChan chLower lower (writeChan chRaise raise s)
  else writeChan chRaise raise (writeChan chLower lower s)

/-- The commands of a state that does not run the control law, from the position last taken (R153, R165, R167,
R168). -/
def hcDrive (s : State) : State :=
  match s.hc.state with
  | .headland | .shock => hcWrite (if s.hc.pos < upperLimit s then s.hc.cfg.vMax else 0) 0 s
  | .transport =>
    if s.hc.reached = false ∧ s.hc.pos < s.pc.limits.pHitchUpperHard then hcWrite s.hc.cfg.vMax 0 s
    else hcWrite 0 0 { s with hc := { s.hc with reached := true } }
  | .lockedOut | .control | .held | .stopped => hcWrite 0 0 s

/-- The fields of the HC as a change of state to `new` leaves them before the commands are written (R153 steps 1
to 3); the return state is LOCKED_OUT outside HELD (R169). Transport-reached is kept at every entry into TRANSPORT from HELD
(R153), also where it is still set from an earlier TRANSPORT and HELD was entered from LOCKED_OUT (R157, R168). DESIGN CHOICE,
unsafe (log entry 39). -/
def hcEnter (new ret : HitchState) (t : Nat) (h : Hitch) : Hitch :=
  let old := h.state
  { h with
    prev := old, state := new, changeTime := t
    ret := if new = .held then ret else .lockedOut
    shockTimer := if old = .shock then none else h.shockTimer
    stall := if old = .control then none else h.stall
    heldDraft := if new = .control ∧ old ≠ .shock then none else h.heldDraft
    reached := if (old = .transport ∧ new ≠ .held) ∨ (new = .transport ∧ old ≠ .held) then false else h.reached }

/-- A change of the hitch state (R153). -/
def hcChange (new ret : HitchState) (s : State) : State :=
  let old := s.hc.state
  let s := hcDrive { s with hc := hcEnter new ret s.time s.hc }
  post .hitchState new.code old.code s

/-- A hold cause is set (R169). -/
def Hitch.anyCause (h : Hitch) : Bool := h.causeRequest || h.causeSupply || h.causeLink

/-- The HC acts on a hold cause that has just been set (R169). -/
def hcHold (s : State) : State :=
  match s.hc.state with
  | .control | .shock => hcChange .held .control s
  | .headland => hcChange .held .headland s
  | .transport => hcChange .held .transport s
  | .lockedOut | .held | .stopped => s

/-- The HC acts on a hold cause that has just been cleared (R169). -/
def hcUnhold (s : State) : State :=
  if s.hc.state = .held ∧ s.hc.anyCause = false then hcChange s.hc.ret .lockedOut s else s

/-- A change that leads to HELD instead while a hold cause is set (R156, R157, R169). -/
def hcChangeOrHold (new : HitchState) (s : State) : State :=
  if s.hc.anyCause then hcChange .held new s else hcChange new .lockedOut s

/-- The HC enters STOPPED for a stop cause whose flag has been set (R174). -/
def hcStop (s : State) : State :=
  if s.hc.state = .stopped then s else hcChange .stopped .lockedOut s

/-- The exit test of STOPPED (R176). -/
def hcExitTest (s : State) : State :=
  if s.hc.state = .stopped ∧ s.hc.stopPosition = false ∧ s.hc.raiseForced = false ∧ s.hc.lowerForced = false
      ∧ blockingEntry s.ft .hitch = none then
    hcChange .lockedOut .lockedOut { s with hc := { s.hc with stopStall := false } }
  else s

/-- The HC takes the position at a publication of the snapshot (R158). -/
def hcOnSnapshot (s : State) : State :=
  let e := s.mu.snapshot.entries[rolePos]
  let ok := e.present && e.valid
  let s := { s with hc := { s.hc with pos := e.value.toNat, posValid := ok, stopPosition := !ok } }
  if ok then s else hcStop s

/-- The HC takes the stale indication becoming true (R158). -/
def hcOnStale (s : State) : State :=
  hcStop { s with hc := { s.hc with posValid := false, stopPosition := true } }

/-- The draft term of a pass as formed from the draft of the result (R160). -/
def draftError (h : Hitch) : Int :=
  let dRef : Int := ((1000 - (h.lever : Int)) * h.cfg.dMax).tdiv 1000
  clampI (-1000) 1000 (((h.draft - dRef) * 1000).tdiv h.cfg.dMax)

/-- The draft is treated as valid: the latest result is valid and the stale indication is false (R44, R159 step 1). -/
def draftOk (s : State) : Bool := s.hc.draftValid && !s.isStale

/-- The draft term a pass uses, absent where it has none, and the held draft term it leaves, with the draft treated as
valid or not (R161, R162). DEDUCED, unsafe (log entry 21). -/
def draftTerm (frozen valid : Bool) (h : Hitch) : Option Int × Option Int :=
  if frozen then (if valid then h.heldDraft else none, h.heldDraft)
  else if valid then (some (draftError h), some (draftError h))
  else (none, none)

/-- The mixed error (R162). -/
def mixedError (lever pos mix : Nat) (term : Option Int) : Int :=
  let ePos : Int := (lever : Int) - pos
  match term with
  | some e => ((100 - (mix : Int)) * ePos + mix * e).tdiv 100
  | none => (100 * ePos).tdiv 100

/-- The slip term (R163). -/
def slipTerm (on : Bool) (m : MotionRecord) (sLim : Nat) : Int :=
  if on = true ∧ m.slipValid = true ∧ sLim < m.slip then min 1000 ((((m.slip - sLim) * 4 : Nat)) : Int) else 0

/-- The valve opening of an error beyond the deadband (R164 steps 2 and 3). -/
def lawOpening (e : Int) (h : Hitch) : Nat :=
  let v := min ((e.natAbs - h.cfg.db) * h.cfg.gain / 16) h.cfg.vMax
  if e < 0 then min (min v h.cfg.vDrop) h.dropRate else v

/-- The RAISE and LOWER commands of an error (R164). -/
def lawCommands (e : Int) (upper : Nat) (h : Hitch) : Nat × Nat :=
  if e.natAbs ≤ h.cfg.db then (0, 0)
  else if e < 0 then (0, lawOpening e h)
  else (if upper ≤ h.pos then 0 else lawOpening e h, 0)

/-- The error of a pass (R162, R163). -/
def lawError (term : Option Int) (m : MotionRecord) (h : Hitch) : Int :=
  clampI (-1000) 1000 (mixedError h.lever h.pos h.mix term + slipTerm h.slipLimiting m h.cfg.sLim)

/-- One pass of the control law (R160 to R164). -/
def hcPass (s : State) : State :=
  let dt := draftTerm s.sc.pub.phase.handOver (draftOk s) s.hc
  let cmd := lawCommands (lawError dt.1 s.me.pub s.hc) (upperLimit s) s.hc
  hcWrite cmd.1 cmd.2 { s with hc := { s.hc with heldDraft := dt.2 } }

/-- The valve a pass commands at 300 or more (R174). -/
def wideValve (h : Hitch) : Option HitchValve :=
  if Config.stallOpening ≤ h.raiseCmd then some .raise
  else if Config.stallOpening ≤ h.lowerCmd then some .lower
  else none

/-- The stall test after a pass in CONTROL (R174). -/
def hcStallTest (s : State) : State :=
  match wideValve s.hc, s.hc.stall with
  | none, _ => { s with hc := { s.hc with stall := none } }
  | some v, none => { s with hc := { s.hc with stall := some ⟨s.time, s.hc.pos, v⟩ } }
  | some v, some ref =>
    if v ≠ ref.valve then { s with hc := { s.hc with stall := none } }
    else if Config.stallMove ≤ ((s.hc.pos : Int) - ref.pos).natAbs then
      { s with hc := { s.hc with stall := some ⟨s.time, s.hc.pos, v⟩ } }
    else if ref.time + Config.stallTime ≤ s.time then
      ftStart fHitchStall v.code (hcStop { s with hc := { s.hc with stopStall := true } })
    else s

/-- The HC acts on a draft result by its state (R159 step 4). -/
def hcDraftAct (s : State) : State :=
  match s.hc.state with
  | .control => hcStallTest (hcPass s)
  | .shock | .headland | .transport => hcDrive s
  | .lockedOut | .held | .stopped => s

/-- A pending hold is applied (R170). -/
def hcApplyPending (s : State) : State :=
  if s.hc.holdPending then hcHold { s with hc := { s.hc with holdPending := false, causeRequest := true } } else s

/-- What a draft result does in STOPPED: the stall condition ends (R174) and the exit is tested (R176). -/
def hcStoppedResult (s : State) : State :=
  if s.hc.state = .stopped then hcExitTest (ftEnd fHitchStall s) else s

/-- The HC takes a draft result: its D and its own validity into the record, and then its act (R159). -/
def hcDraftResult (d : Int) (valid : Bool) (s : State) : State :=
  let s := { s with hc := { s.hc with draft := d, draftValid := valid } }
  hcDraftAct (hcStoppedResult (hcApplyPending s))

/-- The HC takes a SHOCK event of the FOC (R165). -/
def hcShock (s : State) : State :=
  match s.hc.state with
  | .control =>
    let s := hcChange .shock .lockedOut s
    let s := { s with hc := { s.hc with shockTimer := some (s.time + s.hc.cfg.tShock * Config.ms) } }
    post .hitchShock s.hc.pos 0 s
  | .shock => { s with hc := { s.hc with shockTimer := some (s.time + s.hc.cfg.tShock * Config.ms) } }
  | .lockedOut | .headland | .transport | .held | .stopped => s

/-- The HC takes a supply change (R172). -/
def hcOnSupply (s : State) : State :=
  match s.vo.supply with
  | .low => hcHold { s with hc := { s.hc with causeSupply := true } }
  | .normal => hcUnhold { s with hc := { s.hc with causeSupply := false } }

/-- The HC takes a link loss, under either policy (R173). -/
def hcOnLoss (s : State) : State :=
  if s.hc.causeLink then s else hcHold { s with hc := { s.hc with causeLink := true } }

/-- The HC is told to resume (R173). -/
def hcOnResume (s : State) : State :=
  hcUnhold { s with hc := { s.hc with
    causeLink := false, ret := if s.hc.state = .held then .lockedOut else s.hc.ret } }

/-- The HC is told that RAISE or LOWER is forced (R175). -/
def hcOnForced (i : Fin 14) (s : State) : State :=
  hcStop { s with hc := { s.hc with
    raiseForced := s.hc.raiseForced || decide (i = chRaise)
    lowerForced := s.hc.lowerForced || decide (i = chLower)
    stopOutput := true } }

/-- The HC is told that RAISE or LOWER is restored (R175). -/
def hcOnRestored (i : Fin 14) (s : State) : State :=
  let raise := s.hc.raiseForced && !decide (i = chRaise)
  let lower := s.hc.lowerForced && !decide (i = chLower)
  hcExitTest { s with hc := { s.hc with
    raiseForced := raise, lowerForced := lower, stopOutput := s.hc.stopOutput && (raise || lower) } }

end Sys2Proof.Machine
end

