-- ==== Sys2Proof/Machine/ShiftOps.lean ====
section
/-! DEFINITION. What the Shift Controller does at its events (chapters 06 and 07): classification and binding (R97 to
R99), modulation (R121 to R125), completion, timeout, recovery and abort (R126 to R130), the queue's head (R116 to
R120) and the reactions to supply, braking, link loss, forced channels and motion (R131 to R135). An operation that
can bring the SC to IDLE takes as `k` what then happens to the next head of the queue. -/

namespace Sys2Proof.Machine

open Sys2Proof

/-! ### Classification and binding -/

/-- The kind of a shift from one position to another; NONE for no shift (R97). -/
def classify (gs : Vector GearEntry 12) (d : Dir) (g : Nat) (d' : Dir) (g' : Nat) : ShiftKind :=
  if d = .n then (if d' = .n then .none else .engage)
  else if d' = .n then .disengage
  else if d' ≠ d then .shuttle
  else if (gearAt gs g).range ≠ (gearAt gs g').range then .range
  else if g' ≠ g then .speed
  else .none

/-- The sense of a shift of a kind (R97). -/
def senseOf (k : ShiftKind) (g g' : Nat) : Sense :=
  match k with
  | .speed | .range => if g < g' then .up else if g' < g then .down else .none
  | .none | .shuttle | .engage | .disengage => .none

/-- The entry of the profile map for a kind and a sense (R100). -/
def mapIndex (k : ShiftKind) (u : Sense) : Fin 7 :=
  match k, u with
  | .speed, .down => 1
  | .speed, _ => 0
  | .range, .down => 3
  | .range, _ => 2
  | .shuttle, _ => 4
  | .engage, _ => 5
  | .disengage, _ => 6
  | .none, _ => 0

/-- An oncoming and an offgoing clutch bound to a pair of roles, both unbound when they are the same (R98). -/
def bindPair (on off : Option (Fin 9)) : Option (Fin 9) × Option (Fin 9) :=
  if on = off then (none, none) else (on, off)

/-- The primary pair, ON_A and OFF_A (R98). -/
def bindA (gs : Vector GearEntry 12) (k : ShiftKind) (d : Dir) (g : Nat) (d' : Dir) (g' : Nat) :
    Option (Fin 9) × Option (Fin 9) :=
  match k with
  | .speed => bindPair (some (speedClutch (gearAt gs g'))) (some (speedClutch (gearAt gs g)))
  | .range => bindPair (some (rangeClutch (gearAt gs g'))) (some (rangeClutch (gearAt gs g)))
  | .shuttle => (dirClutch d', dirClutch d)
  | .engage => (dirClutch d', none)
  | .disengage => (none, dirClutch d)
  | .none => (none, none)

/-- The secondary pair, ON_B and OFF_B (R98). -/
def bindB (gs : Vector GearEntry 12) (k : ShiftKind) (g g' : Nat) : Option (Fin 9) × Option (Fin 9) :=
  match k with
  | .range => bindPair (some (speedClutch (gearAt gs g'))) (some (speedClutch (gearAt gs g)))
  | .none | .speed | .shuttle | .engage | .disengage => (none, none)

/-- The commands from which step 0 starts: for SHUTTLE and ENGAGE the target's speed and range clutches are stepped
to its P_lock, and for SHUTTLE the current gear's speed and range clutches that leave go to 0 (R99). -/
def stepZeroCommands (gs : Vector GearEntry 12) (k : ShiftKind) (g g' : Nat) (cmd : Vector Nat 9) : Vector Nat 9 :=
  let joins (c : Fin 9) := decide (c = speedClutch (gearAt gs g') ∨ c = rangeClutch (gearAt gs g'))
  let held (c : Fin 9) := decide (c = speedClutch (gearAt gs g) ∨ c = rangeClutch (gearAt gs g))
  match k with
  | .engage => .ofFn fun c => if joins c then (gearAt gs g').pLock else cmd[c]
  | .shuttle => .ofFn fun c =>
      if joins c && !held c then (gearAt gs g').pLock else if held c && !joins c then 0 else cmd[c]
  | .none | .speed | .range | .disengage => cmd

/-! ### Modulation -/

/-- The load of the load compensation (R123). -/
def loadOf (s : State) : Nat :=
  let dRel := if s.draftOk then
      match s.mu.draft.lastValid with
      | some d => min 1000 (d.natAbs * 1000 / s.hc.cfg.dMax)
      | none => 1000
    else 1000
  max s.me.engine.effTorque dRel

/-- An end pressure after load compensation (R122, R123). -/
def compensated (kLoad load : Nat) (label : Phase) (p : Nat) : Nat :=
  if label.handOver then min Config.pClutchMax (p * (1000 + kLoad * load / 1000) / 1000) else p

/-- A straight line from `p0` to `p1` at `t` microseconds of `dur` milliseconds (R122). R122 gives t and T in ms and
is silent where t is no whole ms: the division uses microseconds. DESIGN CHOICE, unsafe (log entry 28). -/
def rampAt (p0 p1 t dur : Nat) : Nat :=
  if dur * Config.ms ≤ t then p1
  else ((p0 : Int) + (((p1 : Int) - p0) * t).tdiv ((dur * Config.ms : Nat) : Int)).toNat

/-- The command an action gives at `t` (R122); `comp` is the compensation of the running step. -/
def actionCommand (a : Action) (comp : Nat → Nat) (p0 t dur : Nat) : Nat :=
  match a.type with
  | .hold => p0
  | .step => comp a.p
  | .ramp => rampAt p0 (comp a.p) t dur
  | .fill => a.p
  | .dump => 0

/-- The action of the running step on clutch `c`, if a role binds it (R98). -/
def boundAction (run : ShiftRun) (st : ProfileStep) (c : Fin 9) : Option Action :=
  if run.onA = some c then some st.onA
  else if run.offA = some c then some st.offA
  else if run.onB = some c then some st.onB
  else if run.offB = some c then some st.offB
  else none

/-- The nine commands of the running step at the present time (R121 step 1, R99). -/
def stepCommands (s : State) (run : ShiftRun) (st : ProfileStep) : Vector Nat 9 :=
  .ofFn fun c =>
    match boundAction run st c with
    | some a =>
      min Config.pClutchMax
        (actionCommand a (compensated s.sc.kLoad (loadOf s) st.label) run.entryP[c] (s.time - run.entry) run.applied)
    | none => run.entryP[c]

/-- A step's applied duration (R124). -/
def appliedDuration (oil : Int) (st : ProfileStep) : Nat :=
  if st.label = .fill then
    min (st.duration * (1000 + 10 * (40 - oil).toNat) / 1000) (st.duration * 1600 / 1000)
  else st.duration

/-- The shaft speeds agree with a ratio within a window (R125, R128, R131). -/
def speedsAgree (m : MotionRecord) (ratio window : Nat) : Bool :=
  decide (((m.nIn : Int) - (m.nOut * ratio / 1000 : Nat)).natAbs ≤ window)

/-- A step whose end condition is tested as TIME, with no timeout (R103, R125). -/
def timeLike (s : State) (run : ShiftRun) (st : ProfileStep) : Bool :=
  match st.endCond with
  | .time => true
  | .filled =>
    match run.onA with
    | none => true
    | some c => !s.roleOk (clutchRole c)
  | .synced => decide (run.tgtDir = .n) || s.me.pub.inputSuspect

/-- The sync count after an update of the step (R125). -/
def syncCount (s : State) (run : ShiftRun) (st : ProfileStep) : Nat :=
  if st.endCond = .synced ∧ speedsAgree s.me.pub (gearAt s.sc.gears run.tgtGear).ratio s.sc.wSync = true then
    run.sync + 1
  else 0

/-- The condition of a FILLED or SYNCED step is met (R125). -/
def conditionMet (s : State) (run : ShiftRun) (st : ProfileStep) : Bool :=
  match st.endCond with
  | .time => false
  | .filled =>
    match run.onA with
    | none => false
    | some c => decide ((s.sc.pFillDetect : Int) ≤ (s.mu.snapshot.entries[clutchRole c]).value)
  | .synced => decide (3 ≤ syncCount s run st)

/-- What an end test finds. -/
inductive StepEnd where
  | runs | ends | timesOut
deriving DecidableEq, Repr

/-- The end test of the running step (R125). -/
def stepEnd (s : State) (run : ShiftRun) (st : ProfileStep) : StepEnd :=
  let passed := decide (run.applied * Config.ms ≤ s.time - run.entry)
  if timeLike s run st then (if passed then .ends else .runs)
  else if conditionMet s run st then .ends
  else if passed then .timesOut else .runs

/-- What a modulation update finds: the step that runs on, the end of the profile, or a timeout. -/
inductive ModResult where
  | running (run : ShiftRun) (st : ProfileStep) (cmd : Vector Nat 9)
  | complete
  | timedOut (run : ShiftRun) (st : ProfileStep) (cmd : Vector Nat 9)

/-- The entry of the next step: the commands just formed are its entry pressures (R121 step 3). -/
def enterStep (s : State) (run : ShiftRun) (cmd : Vector Nat 9) (st : ProfileStep) : ShiftRun :=
  { run with step := run.step + 1, entry := s.time, applied := appliedDuration s.me.engine.effOil st
             entryP := cmd, sync := 0 }

/-- A modulation update in STEPPING: the running step `st` and the steps `rest` after it (R121 steps 1 to 3). -/
def modSteps (s : State) : List ProfileStep → ProfileStep → ShiftRun → ModResult
  | rest, st, run =>
    let cmd := stepCommands s run st
    let run' := { run with sync := syncCount s run st }
    match stepEnd s run st with
    | .runs => .running run' st cmd
    | .timesOut => .timedOut run' st cmd
    | .ends =>
      match rest with
      | [] => .complete
      | st' :: rest' => modSteps s rest' st' (enterStep s run cmd st')

/-- The steps of the running shift's profile (R100, R101). -/
def runSteps (s : State) (run : ShiftRun) : List ProfileStep :=
  match run.profile with
  | some p => s.sc.profiles[p]
  | none => []

/-- What a modulation update finds for a shift: its steps from the running one on. -/
def modResult (s : State) (run : ShiftRun) : ModResult :=
  match (runSteps s run).drop run.step with
  | [] => .complete
  | st :: rest => modSteps s rest st run

/-! ### Positions -/

/-- The locked position's commands written (R111). -/
def writeLocked (s : State) : State := writeClutches (lockedCommands s.sc.gears s.sc.pub.dir s.sc.pub.gear) s

/-- The SC becomes IDLE in the position the record shows: no shift, no modulation, no wait, and the record
published (R110). Its target fields become N and 0 at a drop, an ended entry, a recovery's success, a link loss and the end of
a dump, as R126 gives them at a completion. DESIGN CHOICE, unsafe (log entry 38). -/
def enterIdle (s : State) : State :=
  let s := { s with sc := { s.sc with shift := none, modDue := none, supplyWait := none, brakeWait := none } }
  scPublish { s.sc.pub with
    state := .idle, kind := .none, sense := .none, phase := .none, step := 0, tgtDir := .n, tgtGear := 0 } s

/-- The timeout entry kept for the recovery or abort in hand ends (R117, R127 to R129, R132). -/
def endTimeout (s : State) : State :=
  ftEndOpt s.sc.timeoutFault { s with sc := { s.sc with timeoutFault := none } }

/-- The queue emptied without notices (R113). -/
def emptyQueue (s : State) : State := { s with sc := { s.sc with queue := [] } }

/-- The SC enters ABORTING (R130). The target gear beside its target N is 0, the code for none. DEDUCED, unsafe (log entry
38). -/
def enterAborting (s : State) : State :=
  let s := writeClutches (.replicate 9 0) s
  let s := { s with sc := { s.sc with
    shift := none, modDue := none, supplyWait := none, brakeWait := none, dump := some (s.time + Config.dumpTime) } }
  evalAbove (scPublish { s.sc.pub with
    state := .aborting, dir := .n, gear := 0, kind := .none, sense := .none, phase := .none, step := 0
    tgtDir := .n, tgtGear := 0 } s)

/-- The recovery's commands: the previous engaged set ramps from the entry pressures to its P_lock, every other
clutch is at 0 (R128). -/
def recoveryCommands (s : State) (run : ShiftRun) : Vector Nat 9 :=
  .ofFn fun c =>
    if c ∈ engagedSet s.sc.gears run.prevDir run.prevGear then
      rampAt run.entryP[c] (gearAt s.sc.gears run.prevGear).pLock (s.time - run.entry) 200
    else 0

/-- The SC enters RECOVERING from the commands `cmd`, for the timeout entry `i` if there is one (R127, R128). -/
def enterRecovering (i : Option (Fin 47)) (run : ShiftRun) (cmd : Vector Nat 9) (s : State) : State :=
  let run := { run with
    onA := none, offA := none, onB := none, offB := none, entry := s.time, applied := 200, entryP := cmd, sync := 0 }
  let s := { s with sc := { s.sc with queue := [], shift := some run, timeoutFault := i } }
  scPublish { s.sc.pub with state := .recovering, phase := .none, step := 0 } (writeClutches (recoveryCommands s run) s)

/-- A step times out (R127). -/
def stepTimedOut (run : ShiftRun) (st : ProfileStep) (cmd : Vector Nat 9) (s : State) : State :=
  let i := if st.endCond = .filled then fFillTimeout else fSyncTimeout
  let detail := if st.endCond = .filled then
      match run.onA with
      | some c => c.val
      | none => 0
    else run.tgtGear
  let s := ftStart i detail s
  if s.sc.pub.kind = .engage then
    let s := enterAborting (post .shiftNeutraled run.tgtGear 0 (emptyQueue s))
    { s with sc := { s.sc with timeoutFault := some i } }
  else enterRecovering (some i) run cmd s

/-- The shift completes (R126); `k` takes the next head. -/
def shiftComplete (k : State → State) (run : ShiftRun) (s : State) : State :=
  let above := s.sc.pub.above
  let s := writeClutches (lockedCommands s.sc.gears run.tgtDir run.tgtGear) s
  let s := { s with sc := { s.sc with shift := none, modDue := none } }
  let s := evalAbove (scPublish { s.sc.pub with
    state := .idle, dir := run.tgtDir, gear := run.tgtGear, kind := .none, sense := .none, phase := .none, step := 0
    tgtDir := .n, tgtGear := 0 } s)
  k (postAbove above (post .shiftDone run.tgtGear run.tgtDir.code s))

/-- The record published with the running step and its label (R121 step 5). -/
def publishStep (step : Nat) (st : ProfileStep) (s : State) : State :=
  scPublish { s.sc.pub with state := .stepping, phase := st.label, step := step } s

/-- What a modulation update in STEPPING does with what it finds (R121, R126, R127). -/
def applyMod (k : State → State) (run : ShiftRun) (r : ModResult) (s : State) : State :=
  match r with
  | .running run st cmd =>
    publishStep run.step st (writeClutches cmd { s with sc := { s.sc with shift := some run } })
  | .complete => shiftComplete k run s
  | .timedOut run st cmd => stepTimedOut run st cmd s

/-- A modulation update in STEPPING (R121). -/
def modStepping (k : State → State) (run : ShiftRun) (s : State) : State := applyMod k run (modResult s run) s

/-- A recovery succeeds (R128); `k` takes the next head after SHIFT_RECOVERED (R116). DESIGN CHOICE, unsafe (log
entry 34). -/
def recoverySucceeds (k : State → State) (run : ShiftRun) (s : State) : State :=
  let s := enterIdle (writeLocked s)
  k (post .shiftRecovered run.prevGear run.tgtGear (endTimeout s))

/-- A recovery fails (R129). -/
def recoveryFails (run : ShiftRun) (s : State) : State :=
  post .shiftNeutraled run.tgtGear 0 (ftStart fRecoveryFailed run.prevGear (endTimeout (enterAborting s)))

/-- The sync count of a recovery after an update (R128). -/
def recoverySync (s : State) (run : ShiftRun) : Nat :=
  if speedsAgree s.me.pub (gearAt s.sc.gears run.prevGear).ratio s.sc.wSync then run.sync + 1 else 0

/-- The recovery has succeeded at this update (R128). -/
def recoveryDone (s : State) (run : ShiftRun) : Bool :=
  decide (run.entry + Config.recoveryRamp ≤ s.time)
    && (s.me.pub.inputSuspect || decide (3 ≤ recoverySync s run))

/-- The recovery fails at this update (R129). -/
def recoveryLate (s : State) (run : ShiftRun) : Bool :=
  !recoveryDone s run && decide (run.entry + Config.recoveryLimit ≤ s.time)

/-- A modulation update in RECOVERING (R128, R129). -/
def modRecovering (k : State → State) (run : ShiftRun) (s : State) : State :=
  let run' := { run with sync := recoverySync s run }
  let t := writeClutches (recoveryCommands s run) { s with sc := { s.sc with shift := some run' } }
  if recoveryDone s run then recoverySucceeds k run t
  else if recoveryLate s run then recoveryFails run t
  else t

/-! ### The head of the queue -/

/-- The entry is an upshift of the locked position (R118). -/
def isUpshift (e : ShiftEntry) (d : Driveline) : Bool := decide (e.dir = d.dir ∧ d.gear < e.gear)

/-- The start conditions of R118. -/
def startReady (e : ShiftEntry) (s : State) : Bool :=
  decide (s.vo.supply = .normal) && !(isUpshift e s.sc.pub && s.tbc.pub.braking)

/-- The two wait timers started, kept or discarded as their causes stand (R118). -/
def waitTimers (e : ShiftEntry) (s : State) : State :=
  let keep (on : Bool) (t : Option Nat) (d : Nat) : Option Nat := if on then some (t.getD (s.time + d)) else none
  { s with sc := { s.sc with
    supplyWait := keep (decide (s.vo.supply = .low)) s.sc.supplyWait Config.supplyWaitTime
    brakeWait := keep (isUpshift e s.sc.pub && s.tbc.pub.braking) s.sc.brakeWait Config.brakeWaitTime } }

/-- The head of the queue enters PENDING with fresh wait timers (R116, R118). -/
def enterPending (e : ShiftEntry) (s : State) : State :=
  waitTimers e (scPublish { s.sc.pub with
    state := .pending, kind := .none, sense := .none, phase := .none, step := 0, tgtDir := e.dir, tgtGear := e.gear }
    { s with sc := { s.sc with supplyWait := none, brakeWait := none } })

/-- The head of the queue taken off, with its wait timers. -/
def popHead (s : State) : State :=
  { s with sc := { s.sc with queue := s.sc.queue.tail, supplyWait := none, brakeWait := none } }

/-- A dropped entry, its head already removed: the notice, then IDLE, then the next head (R118, R119). DEDUCED,
unsafe (log entry 14). -/
def dropEntry (k : State → State) (e : ShiftEntry) (why : DropReason) (s : State) : State :=
  k (enterIdle (post .shiftDropped e.gear why.code s))

/-- A shift begins from the locked position toward (d', g') (R120). DEDUCED, unsafe (log entry 13). -/
def beginShift (k : State → State) (d' : Dir) (g' : Nat) (s : State) : State :=
  let gs := s.sc.gears
  let d := s.sc.pub.dir
  let g := s.sc.pub.gear
  let kind := classify gs d g d' g'
  let sense := senseOf kind g g'
  let a := bindA gs kind d g d' g'
  let b := bindB gs kind g g'
  let profile := s.sc.map[mapIndex kind sense]
  let run : ShiftRun := ⟨d, g, d', g', profile, a.1, a.2, b.1, b.2, 0, s.time, 0,
    stepZeroCommands gs kind g g' (clutchCommands s), 0⟩
  let first := (runSteps s run).head?
  let label := (first.map ProfileStep.label).getD .none
  let run := { run with applied := (first.map (appliedDuration s.me.engine.effOil)).getD 0 }
  let s := { s with sc := { s.sc with shift := some run, modDue := some (s.time + Config.modPeriod) } }
  let s := scPublish { s.sc.pub with
    state := .stepping, kind := kind, sense := sense, phase := label, step := 0, tgtDir := d', tgtGear := g' } s
  modStepping k run s

/-- The expected input speed in gear `g` is within N_engine_max (R119 step 4). -/
def engineAllows (s : State) (g : Nat) : Bool :=
  decide (s.me.pub.nOut * (gearAt s.sc.gears g).ratio / 1000 ≤ s.pc.limits.nEngineMax)

/-- The gear a downshift to `g` starts toward: `g`, or the first enabled gear above it and below the locked gear, at
or below the cap, that the engine allows; none if there is none (R119 step 4). -/
def overspeedGear (s : State) (cap g : Nat) : Option Nat :=
  if engineAllows s g then some g
  else (List.range s.sc.pub.gear).find? fun h =>
    decide (g < h ∧ h ≤ cap) && gearEnabled s.sc.gears h && engineAllows s h

/-- The cap of a direction (R96). -/
def capOf (w : GearWindow) (d : Dir) : Nat := if d = .r then w.reverseCap else w.gHigh

/-- R119 steps 3 and 4 for the entry `e` resolved to gear `t`, then the start of the shift (R120). -/
def startResolved (k : State → State) (e : ShiftEntry) (t : Nat) (s : State) : State :=
  let d := s.sc.pub
  if e.dir = d.dir ∧ t = d.gear then k (enterIdle (post .shiftDone t e.dir.code s))
  else if e.dir ≠ d.dir ∧ d.dir ≠ .n ∧ s.pc.limits.vShuttleMax < s.me.pub.vR then dropEntry k e .speed s
  else if e.dir = d.dir ∧ t < d.gear then
    match overspeedGear s (capOf s.sc.window e.dir) t with
    | none => dropEntry k e .overspeed s
    | some h => beginShift k e.dir h (if h = t then s else post .shiftClamped t h s)
  else beginShift k e.dir t s

/-- A PENDING entry starts (R119). -/
def startEntry (k : State → State) (s : State) : State :=
  match s.sc.queue with
  | [] => s
  | e :: _ =>
    let s := popHead s
    match resolveGear s.sc.gears (capOf s.sc.window e.dir) e.gear with
    | none => k (enterIdle (post .shiftClamped e.gear 0 s))
    | some t => startResolved k e t (if t = e.gear then s else post .shiftClamped e.gear t s)

/-- The heads of the queue enter PENDING and start while they can, at most `n` of them (R116, R118, R119). -/
def pendHeads : Nat → State → State
  | 0, s => s
  | n + 1, s =>
    match s.sc.queue with
    | [] => s
    | e :: _ =>
      let s := enterPending e s
      if startReady e s then startEntry (pendHeads n) s else s

/-- The head of the queue, if any, enters PENDING (R116). -/
def pendNext (s : State) : State := pendHeads s.sc.queue.length s

/-- The wait timers and the start test of a PENDING head (R118). -/
def pendingTest (s : State) : State :=
  match s.sc.queue with
  | [] => s
  | e :: _ =>
    let s := waitTimers e s
    if startReady e s then startEntry pendNext s else s

/-- The PENDING head is dropped (R118). -/
def dropHead (why : DropReason) (s : State) : State :=
  match s.sc.queue with
  | [] => s
  | e :: _ => dropEntry pendNext e why (popHead s)

/-! ### Events -/

/-- What NEUTRAL does in the present state: its action code and the state after (R117). -/
def neutralAct (s : State) : Nat × State :=
  match s.sc.pub.state with
  | .idle =>
    if s.sc.pub.dir = .n then (0, emptyQueue s)
    else if s.vo.supply = .normal then (1, beginShift pendNext .n 0 (emptyQueue s))
    else (2, enterAborting (emptyQueue s))
  | .pending | .stepping | .recovering => (2, endTimeout (enterAborting (emptyQueue s)))
  | .aborting => (0, emptyQueue s)

/-- The running step is labelled FILL. -/
def inFill (s : State) : Bool := decide (s.sc.pub.phase = .fill)

/-- A shift in a FILL step is withdrawn (R133). -/
def withdraw (run : ShiftRun) (s : State) : State :=
  match s.sc.pub.kind with
  | .speed | .range | .shuttle => enterRecovering none run (clutchCommands s) s
  | .engage => post .shiftDropped run.tgtGear DropReason.supply.code (enterAborting s)
  | .disengage | .none => s

/-- The SC takes a supply change (R133). -/
def scOnSupply (s : State) : State :=
  match s.sc.pub.state with
  | .pending => pendingTest s
  | .stepping =>
    match s.sc.shift with
    | some run => if s.vo.supply = .low ∧ inFill s = true then withdraw run s else s
    | none => s
  | .idle | .recovering | .aborting => s

/-- The SC takes a publication of the brake record (R134). -/
def scOnBrake (s : State) : State :=
  let s := scWindow false s
  if s.sc.pub.state = .pending then pendingTest s else s

/-- SHIFT_DROPPED with reason LINK for every queued entry, in queue order (R135). -/
def dropAll (s : State) : State :=
  emptyQueue (s.sc.queue.foldl (fun s e => post .shiftDropped e.gear DropReason.link.code s) s)

/-- The SC takes a link loss (R135). -/
def scOnLoss (s : State) : State :=
  let s := dropAll s
  let s := if s.sc.pub.state = .pending then enterIdle s else s
  match s.lp.policy with
  | .hold => s
  | .safe => (neutralAct s).2

/-- The SC is told that a clutch channel is forced (R132). -/
def scOnForced (s : State) : State :=
  let s := emptyQueue s
  match s.sc.pub.state with
  | .idle => if s.sc.pub.dir = .n then s else enterAborting s
  | .pending | .stepping | .recovering => endTimeout (enterAborting s)
  | .aborting => s

/-- The slip condition of the locked gear (R131). -/
def slipCondition (s : State) : Bool :=
  decide (200 < s.me.pub.nOut) && !s.me.pub.inputSuspect
    && !speedsAgree s.me.pub (gearAt s.sc.gears s.sc.pub.gear).ratio (3 * s.sc.wSync)

/-- The locked-gear slip test (R131). -/
def slipTest (s : State) : State :=
  if s.sc.pub.state = .idle ∧ s.sc.pub.dir ≠ .n ∧ slipCondition s = true then
    let since := s.sc.slipHold.getD s.time
    let s := { s with sc := { s.sc with slipHold := some since } }
    if s.heldFor (some since) Config.clutchSlipTime then ftStart fClutchSlip s.sc.pub.gear s else s
  else ftEnd fClutchSlip { s with sc := { s.sc with slipHold := none } }

/-- The SC takes a motion update: the slip test (R131), then the end of RECOVERY_FAILED (R129). DESIGN CHOICE, unsafe
(log entry 35). -/
def scOnMotion (s : State) : State :=
  let s := slipTest s
  if s.me.pub.standstill then ftEnd fRecoveryFailed s else s

/-- A modulation update, the timer restarted for the next one (R121). -/
def modUpdate (s : State) : State :=
  let s := { s with sc := { s.sc with modDue := s.sc.modDue.map (· + Config.modPeriod) } }
  match s.sc.shift, s.sc.pub.state with
  | some run, .stepping => modStepping pendNext run s
  | some run, .recovering => modRecovering pendNext run s
  | _, _ => s

/-- A modulation update is due and the running step times out at it (R127). -/
def timeoutDue (s : State) : Bool :=
  s.due s.sc.modDue &&
    match s.sc.shift, s.sc.pub.state with
    | some run, .stepping =>
      match modResult s run with
      | .timedOut _ _ _ => true
      | .running _ _ _ | .complete => false
    | _, _ => false

/-- A modulation update is due and the recovery fails at it (R129). -/
def failureDue (s : State) : Bool :=
  s.due s.sc.modDue &&
    match s.sc.shift, s.sc.pub.state with
    | some run, .recovering => recoveryLate s run
    | _, _ => false

/-- The dump time ends (R130); the next head is taken after the end of an ENGAGE's timeout entry (R127, R116). DESIGN
CHOICE, unsafe (log entry 34). -/
def dumpEnds (s : State) : State :=
  let s := { s with sc := { s.sc with dump := none } }
  pendNext (endTimeout (enterIdle (writeLocked s)))

end Sys2Proof.Machine
end

