-- ==== Sys2Proof/Machine/TrailerOps.lean ====
section
/-! DEFINITION. What the Trailer Brake Controller does at its events (chapter 10): the effective pedal pressure
(R182), the supplementary line (R185 to R187), the deviation test (R188), the line check (R190 to R193), a change
of mode (R183), and its reactions to supply, forced channels, standstill, link loss and RESUME (R192 to R195).
Each operation here is the part of an event before `tbcFinish` (R178) unless its comment says otherwise. -/

namespace Sys2Proof.Machine

open Sys2Proof

/-- The TBC's own record changed. -/
def modBrake (g : BrakeRecord → BrakeRecord) (s : State) : State :=
  { s with tbc := { s.tbc with cur := g s.tbc.cur } }

/-- The supplementary line must be vented (R185). -/
def BrakeRecord.vents (b : BrakeRecord) : Bool :=
  decide ((b.mode = .park ∧ b.checking = false) ∨ b.present = false)

/-- The supplementary line state after a change of mode, presence or line check (R185, rows 1 and 2). -/
def suppEntered (b : BrakeRecord) : SuppState :=
  if b.vents then .vented
  else if b.supp = .vented then (if b.suppValid = true ∧ 300 ≤ b.suppP then .charged else .charging)
  else b.supp

/-- The supplementary line state after a publication or the stale indication (R185). -/
def suppMeasured (b : BrakeRecord) : SuppState :=
  match b.supp with
  | .vented => .vented
  | .charging => if b.suppValid = true ∧ 300 ≤ b.suppP then .charged else .charging
  | .charged => if b.suppValid = false ∨ b.suppP < 180 then .charging else .charged

/-- The supplementary line state follows a change of mode, presence or line check (R185). -/
def tbcSuppEnter (s : State) : State := modBrake (fun b => { b with supp := suppEntered b }) s

/-- The end of a line check with its outcome (R193, steps 1 to 4). -/
def checkEnd (o : CheckOutcome) (stage : Nat) (s : State) : State :=
  let s := { s with tbc := { s.tbc with stage := none, cur := { s.tbc.cur with check := .idle } } }
  let s := tbcSuppEnter s
  let s := match o with
    | .passed => modBrake (fun b => { b with verified := true }) s
    | .failed =>
      ftEnd fLineCheck (ftStart fLineCheck stage (modBrake (fun b => { b with verified := false }) s))
    | .aborted => s
    | .none => s
  let s := modBrake (fun b => { b with outcome := o }) s
  post .lineCheckResult o.noticeCode stage s

/-- A running line check is aborted (R192). -/
def checkAbort (s : State) : State := if s.tbc.cur.checking then checkEnd .aborted 0 s else s

/-- The low hold time is discarded and an ACTIVE TRL_SUPP_LOW ended (R187). -/
def lowDiscard (s : State) : State :=
  ftEnd fSuppLow { s with tbc := { s.tbc with lowHold := none } }

/-- The charge window at a change of mode or presence (R186), and the low hold with it (R187): `old` is the record
before the change, the TBC's own record the one after it. The end of an ACTIVE TRL_SUPP_LOW stands here, in step 4 of R183,
before TRAILER_MODE_CHANGED. DESIGN CHOICE, unsafe (log entry 37). -/
def chargeAct (old : BrakeRecord) (s : State) : State :=
  let b := s.tbc.cur
  let opens := decide (b.present = true ∧ b.mode ≠ .park ∧ (old.mode = .park ∨ old.present = false))
  let closes := decide ((b.mode = .park ∧ old.mode ≠ .park) ∨ (b.present = false ∧ old.present = true))
  if opens then
    lowDiscard { s with tbc := { s.tbc with
      charge := some (s.time + Config.chargeTime), cur := { b with chargeOpen := true } } }
  else if closes then
    lowDiscard { s with tbc := { s.tbc with charge := none, cur := { b with chargeOpen := false } } }
  else s

/-- Pre-brake at a change of mode or presence (R183 step 3). -/
def preBrakeMode (s : State) : State :=
  if s.tbc.cur.mode ≠ .road ∨ s.tbc.cur.present = false then
    { s with tbc := { s.tbc with runOut := none, cur := { s.tbc.cur with preBrake := .off } } }
  else preBrakeTest s

/-- A change of mode or presence (R183, steps 1 to 5). -/
def applyMode (m : TrailerMode) (present : Bool) (s : State) : State :=
  let s := checkAbort s
  let old := s.tbc.cur
  let s := modBrake (fun b => { b with
    mode := m, present := present, verified := b.verified && !(old.present && !present) }) s
  let s := preBrakeMode s
  let s := chargeAct old (tbcSuppEnter s)
  post .trailerModeChanged m.code present.toNat s

/-- The effective pedal pressure and its validity (R182). -/
def pedalOf (l r : Nat) (lOk rOk : Bool) : Nat × Bool :=
  match lOk, rOk with
  | true, true => (min l r, true)
  | true, false => (l, false)
  | false, true => (r, false)
  | false, false => (0, false)

/-- The pedal pressure with BRAKING formed from it (R178, R182). -/
def tbcPedal (pedal : Nat × Bool) (s : State) : State :=
  modBrake (fun b => { b with
    pPedal := pedal.1, pedalValid := pedal.2, braking := decide (s.tbc.pBrakeOn ≤ pedal.1) }) s

/-- The four roles taken from a publication of the snapshot, with their validity (R178, R182). -/
def tbcTake (s : State) : State :=
  let e (r : Fin 16) := s.mu.snapshot.entries[r]
  tbcPedal (pedalOf (e rolePedalL).value.toNat (e rolePedalR).value.toNat (s.roleOk rolePedalL) (s.roleOk rolePedalR))
    (modBrake (fun b => { b with
      ctrl := (e roleCtrl).value.toNat, ctrlValid := s.roleOk roleCtrl
      suppP := (e roleSupp).value.toNat, suppValid := s.roleOk roleSupp }) s)

/-- The four roles taken as invalid with their values kept, and the pedal formed from two invalid pedals (R178,
R182). -/
def tbcInvalidate (s : State) : State :=
  tbcPedal (pedalOf 0 0 false false) (modBrake (fun b => { b with ctrlValid := false, suppValid := false }) s)

/-- The supplementary line at a publication or the stale indication (R185). -/
def tbcSuppMeasure (s : State) : State :=
  modBrake (fun b => { b with supp := if b.vents then .vented else suppMeasured b }) s

/-- The charge window at a publication (R186). -/
def chargeTest (s : State) : State :=
  let b := s.tbc.cur
  if b.chargeOpen = true ∧ b.suppValid = true ∧ 150 ≤ b.suppP then
    { s with tbc := { s.tbc with charge := none, cur := { b with chargeOpen := false } } }
  else s

/-- The low test is made: outside PARK, trailer present, no charge window open (R187). -/
def BrakeRecord.lowTested (b : BrakeRecord) : Bool :=
  decide (b.mode ≠ .park ∧ b.present = true ∧ b.chargeOpen = false)

/-- TRL_SUPP_LOW reported, which clears verified (R187). -/
def lowReport (s : State) : State :=
  ftStart fSuppLow (if s.tbc.cur.suppValid then s.tbc.cur.suppP else 0)
    (modBrake (fun b => { b with verified := false }) s)

/-- The low test at a publication (R187). -/
def lowTest (s : State) : State :=
  let b := s.tbc.cur
  if b.lowTested then
    if b.suppValid = false ∨ b.suppP < 120 then
      let since := s.tbc.lowHold.getD s.time
      let s := { s with tbc := { s.tbc with lowHold := some since } }
      if s.heldFor (some since) Config.lowHoldTime then lowReport s else s
    else
      let s := { s with tbc := { s.tbc with lowHold := none } }
      if 150 ≤ b.suppP then ftEnd fSuppLow s else s
  else s

/-- The low test at the stale indication (R187). A low hold time already 500 ms old reports nothing here, and the TBC's
own timer is due at once. DESIGN CHOICE, unsafe (log entry 36). -/
def lowStale (s : State) : State :=
  if s.tbc.cur.lowTested then
    { s with tbc := { s.tbc with lowHold := some (s.tbc.lowHold.getD s.time) } }
  else s

/-- The deviation test is made (R188). -/
def deviationTested (s : State) : Bool :=
  s.tbc.cur.present && !s.tbc.cur.checking && decide (s.vo.supply = .normal) && !(s.vo.chan[chCtrl]).forced

/-- The measured control line deviates from P_cmd as formed at the previous event (R188). -/
def deviates (b : BrakeRecord) : Bool :=
  b.ctrlValid && decide (max 100 (b.pCmd * 15 / 100) < ((b.ctrl : Int) - b.pCmd).natAbs)

/-- The deviation test at a publication or the stale indication (R188). -/
def deviationTest (s : State) : State :=
  let b := s.tbc.cur
  if deviationTested s then
    if deviates b then
      let since := s.tbc.devHold.getD s.time
      let s := { s with tbc := { s.tbc with devHold := some since } }
      if s.heldFor (some since) Config.deviationTime then
        ftStart fCtrlDeviation b.ctrl (modBrake (fun b => { b with verified := false }) s)
      else s
    else
      let s := { s with tbc := { s.tbc with devHold := none } }
      if b.ctrlValid then ftEnd fCtrlDeviation s else s
  else { s with tbc := { s.tbc with devHold := none } }

/-- A running line check at a publication (R191). DEDUCED, unsafe (log entry 22). -/
def checkTest (s : State) : State :=
  let b := s.tbc.cur
  match b.check with
  | .idle => s
  | .stage1 =>
    if b.ctrlValid = true ∧ 900 ≤ b.ctrl ∧ b.suppValid = true ∧ 150 ≤ b.suppP then
      { s with tbc := { s.tbc with
        stage := some (s.time + Config.stage2Time), reference := b.ctrl
        heldCmd := controlCommand s.pc.limits.pTrlMax s.tbc, cur := { b with check := .stage2 } } }
    else s
  | .stage2 =>
    if b.ctrlValid = false ∨ b.ctrl + 50 < s.tbc.reference then checkEnd .failed 2 s
    else if b.suppValid = false ∨ b.suppP < 150 then checkEnd .failed 3 s
    else if controlCommand s.pc.limits.pTrlMax s.tbc ≠ s.tbc.heldCmd then checkEnd .aborted 0 s
    else s

/-- The TBC takes a publication of the snapshot, whole (R178, R182 to R191). The deviation test stands before the low
test. DESIGN CHOICE, unsafe (log entry 29). -/
def tbcOnSnapshot (s : State) : State :=
  tbcFinish (checkTest (lowTest (deviationTest (chargeTest (tbcSuppMeasure (tbcTake s))))))

/-- The TBC takes the stale indication becoming true, whole (R178, R185, R187, R188, R192); the tests in the order of
a publication. DESIGN CHOICE, unsafe (log entry 29). -/
def tbcOnStale (s : State) : State :=
  tbcFinish (checkAbort (lowStale (deviationTest (tbcSuppMeasure (tbcInvalidate s)))))

/-- The change to PARK that a link loss under SAFE makes at standstill, which clears the policy pressure (R195). -/
def policyPark (s : State) : State :=
  modBrake (fun b => { b with policyOn := false }) (applyMode .park s.tbc.cur.present s)

/-- The TBC takes a motion update, whole (R178, R192, R195). -/
def tbcOnMotion (s : State) : State :=
  let still := s.me.pub.standstill
  let s := if still then s else checkAbort s
  let s := if still && s.tbc.cur.policyOn then policyPark s else s
  tbcFinish s

/-- The TBC takes a supply change, whole (R192, R194). -/
def tbcOnSupply (s : State) : State :=
  tbcFinish (match s.vo.supply with
    | .low => checkAbort s
    | .normal => s)

/-- The TBC is told that TRL_CTRL or TRL_SUPP is forced, whole (R194). -/
def tbcOnForced (i : Fin 14) (s : State) : State :=
  let s := modBrake (fun b => { b with verified := false }) (checkAbort s)
  tbcFinish (if i = chCtrl then { s with tbc := { s.tbc with devHold := none } } else s)

/-- The TBC takes a link loss, whole (R195). -/
def tbcOnLoss (s : State) : State :=
  match s.lp.policy with
  | .hold => tbcFinish s
  | .safe =>
    let s := checkAbort s
    tbcFinish (if s.tbc.cur.mode = .park then s
      else if s.me.pub.standstill then policyPark s
      else modBrake (fun b => { b with policyOn := true }) s)

/-- The TBC is told to resume, whole (R195). -/
def tbcOnResume (s : State) : State := tbcFinish (modBrake (fun b => { b with policyOn := false }) s)

/-- The charge window timer expires, whole (R186). -/
def tbcChargeExpiry (s : State) : State :=
  let b := s.tbc.cur
  let s := ftEnd fSuppCharge (ftStart fSuppCharge (if b.suppValid then b.suppP else 0) s)
  tbcFinish { s with tbc := { s.tbc with charge := none, cur := { s.tbc.cur with chargeOpen := false } } }

/-- The line check stage timer expires, whole (R191). -/
def tbcStageExpiry (s : State) : State :=
  let b := s.tbc.cur
  tbcFinish (match b.check with
    | .idle => s
    | .stage1 => checkEnd .failed (if b.ctrlValid = true ∧ 900 ≤ b.ctrl then 3 else 1) s
    | .stage2 => checkEnd .passed 0 s)

/-- The pre-brake run-out timer expires, whole (R189). -/
def tbcRunOutExpiry (s : State) : State :=
  tbcFinish { s with tbc := { s.tbc with runOut := none, cur := { s.tbc.cur with preBrake := .off } } }

end Sys2Proof.Machine
end

