-- ==== Sys2Proof/Machine/ValveOps.lean ====
section
/-! DEFINITION. What the Valve Output Stage and Supply Monitor does at its events (chapter 05): forcing and releasing
a channel (R86, R88), the diagnostic sample (R83, R84, R87) and the supply state (R90 to R92). -/

namespace Sys2Proof.Machine

open Sys2Proof

/-! ### Channels -/

/-- The VO tells a channel's owner that it is forced (R86 step 3). -/
def tellForced (i : Fin 14) (s : State) : State :=
  if i.val < 9 then scOnForced s
  else if i = chRaise ∨ i = chLower then hcOnForced i s
  else if i = chFront then fdmOnForced s
  else tbcOnForced i s

/-- The VO tells a channel's owner that it is restored (R88 step 3); the SC changes nothing (R132), the TBC forms and
writes its commands as at each of its events (R178, R194). -/
def tellRestored (i : Fin 14) (s : State) : State :=
  if i.val < 9 then s
  else if i = chRaise ∨ i = chLower then hcOnRestored i s
  else if i = chFront then fdmOnRestored s
  else tbcFinish s

/-- Codes of OPEN and SHORT in the detail code of OUTPUT_FAULT (R86). -/
def detailOpen : Nat := 0
def detailShort : Nat := 1

/-- A channel is forced (R86). -/
def forceChannel (i : Fin 14) (detail : Nat) (s : State) : State :=
  let s := formDrive i (modChan i (fun ch => { ch with forced := true }) s)
  let s := tellForced i (ftStart (fOutput i) detail s)
  modChan i (fun ch => { ch with openHold := none, offHold := none }) s

/-- A channel is released (R88). -/
def releaseChannel (i : Fin 14) (s : State) : State :=
  tellRestored i (formDrive i (modChan i (fun ch => { ch with forced := false, offHold := none }) s))

/-- The open-load condition (R84). -/
def openLoad (ch : Chan) : Bool := decide (200 ≤ ch.drive ∧ 4 * ch.measured < ch.drive)

/-- The open-load test of a channel that is not forced (R84). -/
def openTest (i : Fin 14) (s : State) : State :=
  if openLoad s.vo.chan[i] then
    let since := (s.vo.chan[i]).openHold.getD s.time
    if s.heldFor (some since) Config.loadHold then forceChannel i detailOpen s
    else modChan i (fun ch => { ch with openHold := some since }) s
  else modChan i (fun ch => { ch with openHold := none }) s

/-- The off-state hold time of a run of results of the kind the entry's state waits for, and the report when it has
run 50 ms (R87). DEDUCED, unsafe (log entry 20). -/
def offHold (i : Fin 14) (awaited : Bool) (report : State → State) (s : State) : State :=
  if awaited then
    let since := (s.vo.chan[i]).offHold.getD s.time
    if s.heldFor (some since) Config.loadHold then report (modChan i (fun ch => { ch with offHold := none }) s)
    else modChan i (fun ch => { ch with offHold := some since }) s
  else modChan i (fun ch => { ch with offHold := none }) s

/-- The off-state test of a forced channel (R87). -/
def offTest (i : Fin 14) (off : OffState) (s : State) : State :=
  match (s.ft[fOutput i]).state with
  | .active => offHold i (decide (off = .healthy)) (ftEnd (fOutput i)) s
  | .latched =>
    offHold i (decide (off ≠ .healthy))
      (ftStart (fOutput i) (if off = .openLoad then detailOpen else detailShort)) s
  | .clear => s

/-- A diagnostic sample of a channel: the current recorded, then the test for its state (R83). -/
def diagSample (i : Fin 14) (current : Nat) (off : OffState) (s : State) : State :=
  let s := modChan i (fun ch => { ch with
    measured := min current 2000, diag := ch.diag.map (· + Config.diagPeriod) }) s
  if (s.vo.chan[i]).forced then offTest i off s else openTest i s

/-! ### The supply -/

/-- A change of the supply state (R92). -/
def supplyChange (new : Supply) (s : State) : State :=
  let s := formDrive chFront { s with vo := { s.vo with supply := new, supplyHold := none } }
  let s := post .supplyChanged new.code (s.roleValueOr0 roleSupply) s
  let s := match new with
    | .low => ftStart fSupplyLow (s.roleValueOr0 roleSupply) s
    | .normal => ftEnd fSupplyLow s
  tbcOnSupply (hcOnSupply (fdmOnSupply (scOnSupply s)))

/-- The condition that the supply state waits for: the low condition in NORMAL (R90), the normal condition in LOW
(R91). -/
def supplyCondition (s : State) : Bool :=
  let ok := s.roleOk roleSupply
  let v := (s.mu.snapshot.entries[roleSupply]).value
  match s.vo.supply with
  | .normal => !ok || decide (v < s.vo.pLow)
  | .low => ok && decide ((s.vo.pOk : Int) ≤ v)

/-- The other supply state. -/
def Supply.other : Supply → Supply
  | .normal => .low | .low => .normal

/-- The supply monitor at a publication of the snapshot (R90, R91). -/
def voOnSnapshot (s : State) : State :=
  if supplyCondition s then
    let since := s.vo.supplyHold.getD s.time
    if s.heldFor (some since) Config.supplyHoldTime then supplyChange s.vo.supply.other s
    else { s with vo := { s.vo with supplyHold := some since } }
  else { s with vo := { s.vo with supplyHold := none } }

/-- The supply monitor at the stale indication becoming true (R90, R91). A low hold time already 100 ms old leaves the
state NORMAL here, and its expiry is due at once. DESIGN CHOICE, unsafe (log entry 30). -/
def voOnStale (s : State) : State :=
  match s.vo.supply with
  | .normal => { s with vo := { s.vo with supplyHold := some (s.vo.supplyHold.getD s.time) } }
  | .low => { s with vo := { s.vo with supplyHold := none } }

/-- The supply monitor's own timer has expired (R90). -/
def supplyExpired (s : State) : Bool :=
  decide (s.vo.supply = .normal) && s.isStale && s.heldFor s.vo.supplyHold Config.supplyHoldTime

end Sys2Proof.Machine
end

