-- ==== Sys2Proof/Machine/MeasureOps.lean ====
section
/-! DEFINITION. What the Measurement Unit does at its events (chapter 03): the draft converter (R40 to R45), the fast
overload comparator (R46 to R48), the scan sequencer and the snapshot (R50 to R60) and the pulse capture (R62). -/

namespace Sys2Proof.Machine

open Sys2Proof

/-! ### Draft -/

/-- A conversion lies inside the left pin's window, bounds included (R43). -/
def DraftCfg.leftIn (c : DraftCfg) (v : Int) : Bool := inRangeI c.leftLow c.leftHigh v

/-- A conversion lies inside the right pin's window, bounds included (R43). -/
def DraftCfg.rightIn (c : DraftCfg) (v : Int) : Bool := inRangeI c.rightLow c.rightHigh v

/-- The draft clamped to its range (R40, R42, R46). -/
def clampDraft (d : Int) : Int := clampI (-6000) 6000 d

/-- The draft converter as START starts it at `t` (R40, R41). -/
def startDraft (c : DraftCfg) (t : Nat) : DraftConv :=
  { running := true, startDue := some (t + if c.chop then chopDelayTime c.chopDelay else 0) }

/-- The comparator as START starts it at `t` (R46). -/
def startFast (t : Nat) : FastComp := { running := true, sampleDue := t + 125 }

/-- The converter after a conversion start that was due at `d` (R40, R41). -/
def draftStarted (c : DraftCfg) (d : Nat) (dc : DraftConv) : DraftConv :=
  let period := c.tD * Config.ms
  { dc with
    started := if c.chop then dc.started + 1 else 0
    startDue := if c.chop = true ∧ 2 ≤ dc.started then none else some (d + period)
    ends := dc.ends ++ [d + period] }

/-- LEFT, RIGHT or BOTH outside their windows, coded 0..2 (R45). -/
def draftDetail (leftOk rightOk : Bool) : Nat :=
  if leftOk then 1 else if rightOk then 0 else 2

/-- The DRAFT_INVALID count takes a result (R45). -/
def draftCount (leftOk rightOk : Bool) (s : State) : State :=
  let n := s.mu.draftInvalid
  if leftOk && rightOk then
    let s := { s with mu := { s.mu with draftInvalid := 0 } }
    if 3 ≤ n then ftEnd fDraftInvalid s else s
  else
    let s := { s with mu := { s.mu with draftInvalid := n + 1 } }
    if n + 1 = 3 then ftStart fDraftInvalid (draftDetail leftOk rightOk) s else s

/-- A draft result is delivered: to the draft status, the count and the HC (R43, R44). The count, with its report to
the FT (R45), precedes the HC's act (R159). DESIGN CHOICE, unsafe (log entry 32). -/
def draftResult (d : Int) (leftOk rightOk : Bool) (s : State) : State :=
  let valid := leftOk && rightOk
  let s := { s with mu := { s.mu with draft :=
    { latest := some (d, valid), lastValid := if valid then some d else s.mu.draft.lastValid } } }
  hcDraftResult d valid (draftCount leftOk rightOk s)

/-- A pin's output from the settled values of a positive and a negative phase (R42). -/
def chopOutput (pos neg : Int) : Int := (pos - neg).tdiv 2

/-- The reversal of the excitation at the end, due at `e`, of a settled conversion (R41, R48). -/
def reversal (e : Nat) (l r : Int) (s : State) : State :=
  let dc := s.mu.dc
  { s with mu := { s.mu with
    dc := { dc with negative := !dc.negative, settled := 0, started := 0
                    startDue := some (e + chopDelayTime s.mu.cfg.chopDelay), prev := some (l, r) }
    foc := { s.mu.foc with ignored := 2 } } }

/-- The result of two consecutive settled conversions (R42, R43); `neg` tells that the later is the negative one. -/
def chopResult (neg : Bool) (pl pr l r : Int) (s : State) : State :=
  let out (a b : Int) : Int := if neg then chopOutput a b else chopOutput b a
  draftResult (clampDraft (out pl l + out pr r))
    (s.mu.cfg.leftIn l && s.mu.cfg.leftIn pl) (s.mu.cfg.rightIn r && s.mu.cfg.rightIn pr) s

/-- A conversion due to end at `e` ends with the pins `l` and `r` (R40 to R43). -/
def draftEnded (e : Nat) (l r : Int) (s : State) : State :=
  let dc := s.mu.dc
  let s := { s with mu := { s.mu with dc := { dc with ends := dc.ends.tail } } }
  if dc.settled < 2 then { s with mu := { s.mu with dc := { s.mu.dc with settled := dc.settled + 1 } } }
  else if s.mu.cfg.chop then
    let s := reversal e l r s
    match dc.prev with
    | none => s
    | some (pl, pr) => chopResult dc.negative pl pr l r s
  else draftResult (clampDraft (l + r)) (s.mu.cfg.leftIn l) (s.mu.cfg.rightIn r) s

/-- D_fast of a fast sample (R46). -/
def fastDraft (negative : Bool) (l r : Int) : Int := clampDraft (if negative then -l + -r else l + r)

/-- The over-threshold count after a sample that is not ignored (R46). DEDUCED, unsafe (log entry 18). -/
def fastCount (c : DraftCfg) (negative : Bool) (l r : Int) (count : Nat) : Nat :=
  if c.leftIn l && c.rightIn r && decide (c.dShock < (fastDraft negative l r).natAbs) then count + 1 else 0

/-- A fast sample (R46 to R48). -/
def fastSample (l r : Int) (s : State) : State :=
  let f := { s.mu.foc with sampleDue := s.mu.foc.sampleDue + 250 }
  let put (f : FastComp) : State := { s with mu := { s.mu with foc := f } }
  if 0 < f.ignored then put { f with ignored := f.ignored - 1 }
  else
    let n := fastCount s.mu.cfg s.mu.dc.negative l r f.count
    if s.mu.cfg.nShock ≤ n then hcShock (put { f with count := 0 }) else put { f with count := n }

/-! ### Pulses -/

/-- The period an input reports (R62), saturating at 400 000 us. DEDUCED, unsafe (log entry 19). -/
def Pulse.reported (p : Pulse) (t : Nat) : Nat := min Config.pulseGap (max p.period (t - p.lastEdge))

/-- An input reports as in capture: calibrated, and RADAR only while present (R61). DEDUCED, unsafe (log entry 19). -/
def pulseReports (i : Fin 4) (p : Pulse) : Bool := p.calibrated && (decide (i ≠ 3) || p.present)

/-- The period an input reports while RUNNING, none otherwise (R61, R62). -/
def periodOf (s : State) (i : Fin 4) : Option Nat :=
  let p := s.mu.pulse[i]
  if pulseReports i p && decide (p.state = .running) then some (p.reported s.time) else none

/-- A pulse input after a rising edge at `t` (R62). DEDUCED, unsafe (log entry 19). -/
def pulseEdgeAt (t : Nat) (p : Pulse) : Pulse :=
  let gap := some (t + Config.pulseGap)
  match p.state with
  | .stopped => { p with state := .firstEdge, lastEdge := t, gap := gap }
  | .firstEdge | .running =>
    { p with state := .running, lastEdge := t, gap := gap
             period := max 1 (min Config.pulseGap (t - p.lastEdge)) }

/-- A pulse input after its gap timer's expiry (R62). -/
def pulseStopped (p : Pulse) : Pulse := { p with state := .stopped, period := 0, gap := none }

/-- One pulse input replaced. -/
def modPulse (i : Fin 4) (g : Pulse → Pulse) (s : State) : State :=
  { s with mu := { s.mu with pulse := s.mu.pulse.set i (g s.mu.pulse[i]) } }

/-! ### The scan sequencer -/

/-- The first enabled step numbered `n` or more (R50). -/
def nextEnabled (steps : Vector ScanStep 16) (n : Nat) : Option (Fin 16) :=
  (List.finRange 16).find? fun i => decide (n ≤ i.val) && (steps[i]).enabled

/-- A role is carried by an enabled step (R33, R49). -/
def roleAssigned (steps : Vector ScanStep 16) (r : Nat) : Bool :=
  steps.toList.any fun st => st.enabled && decide (st.role = r)

/-- The highest-numbered enabled step that carries a role (R55). -/
def roleStep (steps : Vector ScanStep 16) (r : Nat) : Option (Fin 16) :=
  ((List.finRange 16).reverse).find? fun i => (steps[i]).enabled && decide ((steps[i]).role = r)

/-- A run that has reached step `i` at `t`; a delay of 0 is over at once (R50). -/
def atStep (run : ScanRun) (i : Fin 16) (t : Nat) : ScanRun :=
  { run with stepAt := i, converting := decide (run.delay = 0), since := t }

/-- The scaled value of a role (R57). -/
def scaled (r : Fin 16) (sc : RoleScale) (raw : Nat) : Int :=
  clampI (roleLow r) (roleHigh r) ((((raw : Int) - sc.offset) * sc.gain).tdiv 1024)

/-- Where an invalid count lies; none for a valid one (R58). -/
def rangeEndOf (raw : Nat) : Option RangeEnd :=
  if raw < 80 then some .low else if 4015 < raw then some .high else none

/-- The entry of a role and what the MU keeps for it, after a run completed at `t` with the role's count `raw`,
absent where the run does not carry the role (R55, R58, R59). Only a completed run comes here, so that only a completed
run whose copy lacks the role empties the held value. DESIGN CHOICE, unsafe (log entry 33). -/
def roleAfter (r : Fin 16) (sc : RoleScale) (t : Nat) (raw : Option Nat) (m : RoleMem) : RoleEntry × RoleMem :=
  match raw with
  | none => ({}, { m with held := none, rangeEnd := none })
  | some n =>
    match rangeEndOf n with
    | none =>
      let v := scaled r sc n
      (⟨true, v, true, 0⟩, ⟨some (v, t), none, 0⟩)
    | some e =>
      let m' := { m with rangeEnd := some e, invalid := min 255 (m.invalid + 1) }
      match m.held with
      | some (v, t0) => (⟨true, v, false, min 65535 ((t - t0) / Config.ms)⟩, m')
      | none => (⟨true, 0, false, 65535⟩, m')

/-- The SENSOR_RANGE report of a role after a completed run, from what was kept before and after it (R59). -/
def roleReport (r : Fin 16) (entry : RoleEntry) (old new : RoleMem) (s : State) : State :=
  if entry.present then
    if entry.valid then (if 3 ≤ old.invalid then ftEnd (fSensorRange r) s else s)
    else if old.invalid = 2 then ftStart (fSensorRange r) ((new.rangeEnd.map RangeEnd.code).getD 0) s
    else s
  else s

/-- The raw count a completed run files under a role (R55). -/
def roleCount (run : ScanRun) (r : Fin 16) : Option Nat :=
  match roleStep run.steps r.val with
  | some i => some ((run.counts[i]).getD 0)
  | none => none

/-- The snapshot of a completed run and the reports of its roles, in role order (R55, R56, R59). DEDUCED, unsafe
(log entry 11). -/
def publishSnapshot (run : ScanRun) (s : State) : State :=
  let old := s.mu.mem
  let after : Vector (RoleEntry × RoleMem) 16 :=
    .ofFn fun r => roleAfter r s.mu.scales[r] s.time (roleCount run r) old[r]
  let n := (s.mu.runCounter + 1) % Config.wrap16
  let s := { s with mu := { s.mu with
    run := none, runCounter := n, snapshot := ⟨n, s.time, after.map Prod.fst⟩, mem := after.map Prod.snd } }
  (List.finRange 16).foldl (fun s r => roleReport r (after[r]).1 old[r] (after[r]).2 s) s

/-- What follows a publication: in CONFIG the end of a pending stop and SCAN_DONE (R52, R53), in RUN the staleness
timer (R60) and the event at the VO, the HC and the TBC (R90, R158, R178). -/
def afterPublication (s : State) : State :=
  if s.inRun then
    let s := ftEnd fScanStale { s with mu := { s.mu with stale := some (s.time + Config.scanStaleTime) } }
    tbcOnSnapshot (hcOnSnapshot (voOnSnapshot s))
  else post .scanDone s.mu.runCounter 0 { s with mu := { s.mu with stopPending := false } }

/-- A run completes (R50, R55). -/
def completeRun (run : ScanRun) (s : State) : State := afterPublication (publishSnapshot run s)

/-- A run starts from step 0; with no enabled step it completes at once (R50). DEDUCED, unsafe (log entry 17). -/
def startRun (s : State) : State :=
  let run : ScanRun := ⟨s.mu.steps, s.mu.muxDelay, 0, false, s.time, .replicate 16 none⟩
  match nextEnabled s.mu.steps 0 with
  | some i => { s with mu := { s.mu with run := some (atStep run i s.time) } }
  | none => completeRun run s

/-- The run in progress, if any, is aborted (R54). It counts for no role as the run before the next (R58). DESIGN
CHOICE, unsafe (log entry 33). -/
def abortRun (s : State) : State := { s with mu := { s.mu with run := none } }

/-- In CONTINUOUS in RUN the next run starts when one has ended (R51). -/
def nextRun (s : State) : State :=
  if s.inRun && decide (s.mu.scanMode = .continuous) then startRun s else s

/-- A multiplexer delay ends (R50). -/
def delayEnds (run : ScanRun) (s : State) : State :=
  { s with mu := { s.mu with run := some { run with converting := true, since := s.time } } }

/-- A step's conversion ends with the count `raw` (R50). -/
def stepConverted (run : ScanRun) (raw : Nat) (s : State) : State :=
  let run := { run with counts := run.counts.set run.stepAt (some raw) }
  match nextEnabled run.steps (run.stepAt.val + 1) with
  | some i => { s with mu := { s.mu with run := some (atStep run i s.time) } }
  | none => nextRun (completeRun run s)

/-- The staleness timer expires (R60). -/
def scanStale (s : State) : State :=
  let s := ftStart fScanStale 0 { s with mu := { s.mu with stale := none } }
  tbcOnStale (hcOnStale (voOnStale s))

/-- A conversion start of the DC in TRACK starts a run where none is in progress (R51). -/
def trackStart (s : State) : State :=
  if s.inRun && decide (s.mu.scanMode = .track) && s.mu.run.isNone then startRun s else s

/-- Roles that no enabled step carries lose their count, and an ACTIVE SENSOR_RANGE of theirs ends (R49, R59). -/
def dropUnassigned (s : State) : State :=
  (List.finRange 16).foldl (fun s r =>
    if roleAssigned s.mu.steps r.val then s
    else ftEnd (fSensorRange r) { s with mu := { s.mu with
      mem := s.mu.mem.set r { s.mu.mem[r] with invalid := 0 } } }) s

end Sys2Proof.Machine
end

