-- ==== Sys2Proof/Machine/MotionOps.lean ====
section
/-! DEFINITION. What the Motion Estimator does at its events (chapter 04): the motion update (R63 to R72) and the
engine record's staleness (R75). -/

namespace Sys2Proof.Machine

open Sys2Proof

/-- The speeds computed at step 2 of an update (R65, R66), with the ratio as formed (R69). -/
structure Speeds where
  vR    : Nat
  vF    : Nat
  vRaw  : Nat
  nIn   : Nat
  nOut  : Nat
  ratio : Nat

/-- A travel speed from a calibration and a period (R65). -/
def travelSpeed (k : Nat) (period : Option Nat) : Nat :=
  match period with
  | some t => min 20000 (k * 1000 / t)
  | none => 0

/-- A shaft speed from a calibration and a period (R65). -/
def shaftSpeed (ppr : Nat) (period : Option Nat) : Nat :=
  match period with
  | some t => min 4000 (60000000 / (t * ppr))
  | none => 0

/-- The lead ratio as formed (R69). -/
def leadRatio (vF vR : Nat) : Nat := if 300 ≤ vR then min 5000 (vF * 1000 / vR) else 0

/-- The raw speeds (R65, R66). -/
def speedsOf (s : State) : Speeds :=
  let p (i : Fin 4) := s.mu.pulse[i]
  let vR := travelSpeed (p 1).k (periodOf s 1)
  let vF := travelSpeed (p 2).k (periodOf s 2)
  { vR := vR, vF := vF, vRaw := travelSpeed (p 3).k (periodOf s 3), nIn := shaftSpeed (p 0).ppr (periodOf s 0)
    nOut := shaftSpeed (p 1).ppr (periodOf s 1), ratio := leadRatio vF vR }

/-- The driveline record shows a locked gear (R72). -/
def Driveline.locked (d : Driveline) : Bool := decide (d.state = .idle ∧ d.dir ≠ .n ∧ d.gear ≠ 0)

/-- The ratio as formed agrees with the rear axle (R72). -/
def ratioAgrees (r : Nat) : Bool := inRange 500 1500 r

/-- The INPUT condition (R72). -/
def inputCondition (d : Driveline) (v : Speeds) : Bool := d.locked && decide (200 < v.nOut ∧ v.nIn = 0)

/-- The FRONT condition (R72). -/
def frontCondition (v : Speeds) : Bool := decide (1000 < v.vR) && !ratioAgrees v.ratio

/-- The RADAR condition (R72). -/
def radarCondition (present frontSuspect : Bool) (v : Speeds) : Bool :=
  present && !frontSuspect && ratioAgrees v.ratio && decide (v.vRaw = 0 ∧ 2000 < v.vR)

/-- What a plausibility test answers (R71): the suspect state and the hold time after it, and whether it found a
start or an end. -/
structure Plausible where
  suspect : Bool
  hold    : Option Nat
  starts  : Bool := false
  ends    : Bool := false

/-- The plausibility test of one input at an update (R71). -/
def plausibleAt (s : State) (suspect : Bool) (hold : Option Nat) (cond endTest : Bool) (dur : Nat) : Plausible :=
  if suspect then { suspect := !endTest, hold := hold, ends := endTest }
  else if cond then
    match hold with
    | none => { suspect := false, hold := some s.time }
    | some _ =>
      if s.heldFor hold dur then { suspect := true, hold := none, starts := true }
      else { suspect := false, hold := hold }
  else { suspect := false, hold := none }

/-- The report of a plausibility test (R71). -/
def plausibleReport (i : Fin 47) (detail : Nat) (p : Plausible) (s : State) : State :=
  if p.starts then ftStart i detail s else if p.ends then ftEnd i s else s

/-- Step 3 of an update: the three tests, INPUT, FRONT, RADAR, and their reports (R63, R71, R72). -/
def plausibility (v : Speeds) (s : State) : State :=
  let m := s.me
  let p := plausibleAt s m.pub.inputSuspect m.inputHold (inputCondition s.sc.pub v) (decide (0 < v.nIn)) (500 * Config.ms)
  let q := plausibleAt s m.pub.frontSuspect m.frontHold (frontCondition v)
    (decide (300 ≤ v.vR) && ratioAgrees v.ratio) (2000 * Config.ms)
  let r := plausibleAt s m.pub.radarSuspect m.radarHold
    (radarCondition (s.mu.pulse[(3 : Fin 4)]).present q.suspect v) (decide (0 < v.vRaw)) (2000 * Config.ms)
  let s := { s with me := { m with
    inputHold := p.hold, frontHold := q.hold, radarHold := r.hold
    pub := { m.pub with inputSuspect := p.suspect, frontSuspect := q.suspect, radarSuspect := r.suspect } } }
  plausibleReport fRadar v.vR r (plausibleReport fFront v.ratio q (plausibleReport fInput v.nOut p s))

/-- The slip sample of an update, if there is one (R67). -/
def slipSample (vGValid : Bool) (vR vG : Nat) : Option Nat :=
  if vGValid = false ∨ vR < 300 then none
  else if vR ≤ vG then some 0
  else some ((vR - vG) * 1000 / vR)

/-- The ring with a sample appended, the oldest of eight removed (R68). -/
def ringAppend (ring : List Nat) (x : Nat) : List Nat := (if ring.length < 8 then ring else ring.tail) ++ [x]

/-- The slip ring and the time of its last sample after an update (R68). -/
def ringAfter (s : State) (sample : Option Nat) : List Nat × Option Nat :=
  match sample with
  | some x => (ringAppend s.me.ring x, some s.time)
  | none => (if s.heldFor s.me.lastSample Config.slipRingAge then [] else s.me.ring, s.me.lastSample)

/-- The published slip and its validity (R68). -/
def slipOf (ring : List Nat) : Nat × Bool :=
  if 4 ≤ ring.length then (ring.sum / ring.length, true) else (0, false)

/-- Steps 4 and 5 of an update: the history values formed and the record replaced (R63, R66 to R70). -/
def formMotion (v : Speeds) (s : State) : State :=
  let old := s.me.pub
  let vGValid := (s.mu.pulse[(3 : Fin 4)]).present && !old.radarSuspect
  let ring := ringAfter s (slipSample vGValid v.vR v.vRaw)
  let slip := slipOf ring.1
  let still := decide (v.vR < 100 ∧ (v.vRaw < 100 ∨ vGValid = false))
  let since := if still then some (s.me.standSince.getD s.time) else none
  { s with me := { s.me with
    ring := ring.1, lastSample := ring.2, standSince := since
    pub := { old with
      time := s.time, vR := v.vR, vF := v.vF, vG := v.vRaw, vGValid := vGValid, nIn := v.nIn, nOut := v.nOut
      slip := slip.1, slipValid := slip.2, ringEntries := ring.1.length
      lead := v.ratio, leadValid := decide (300 ≤ v.vR) && !old.frontSuspect
      standstill := s.heldFor since Config.standstillTime, dir := s.sc.pub.dir } } }

/-- The motion update (R63); the HC reads the record at its own events. -/
def motionUpdate (s : State) : State :=
  let v := speedsOf s
  let s := { s with me := { s.me with updateDue := s.me.updateDue.map (· + Config.motionPeriod) } }
  tbcOnMotion (fdmEvaluate true (scOnMotion (formMotion v (plausibility v s))))

/-- The engine record takes the three values applied (R73, R75). -/
def takeEngine (speed torque : Nat) (oil : Int) (s : State) : State :=
  let stale := s.me.engine.stale
  let s := { s with me := { s.me with
    engine := { speed := speed, torque := torque, oil := oil, received := s.time, stale := false }
    engineStale := if s.inRun then some (s.time + Config.engineStaleTime) else none } }
  if stale then ftEnd fEngineStale s else s

/-- The engine record's staleness timer expires (R75). -/
def engineExpires (s : State) : State :=
  ftStart fEngineStale 0 { s with me := { s.me with
    engineStale := none, engine := { s.me.engine with stale := true } } }

end Sys2Proof.Machine
end

