-- ==== Sys2Proof/Machine/LinkOps.lean ====
section
/-! DEFINITION. What the Link Port does at its events (chapter 01): shifting a frame in and a reply out (R3), taking a
valid frame (R7, R19, R23), announcing a loss (R22) and forming a reply (R10); and the end of every event, the
delivery of the brake record publications made in it (R134, R141). -/

namespace Sys2Proof.Machine

open Sys2Proof

/-- What a command of this part answers. -/
abbrev Result := Host.Outcome State Fault Refusal

/-- The brake record publications not yet delivered, to the SC and then to the FDM, at most `n` of them (R134, R141;
log entry 4). -/
def deliverBrake : Nat → State → State
  | 0, s => { s with undelivered := 0 }
  | n + 1, s =>
    if s.undelivered = 0 then s
    else deliverBrake n (fdmEvaluate false (scOnBrake { s with undelivered := s.undelivered - 1 }))

/-- The end of an event. DEDUCED, unsafe (log entry 4). -/
def settle (s : State) : State := deliverBrake Config.deliveryFuel s

/-- An event that acts when its condition holds and changes nothing otherwise. DESIGN CHOICE, safe (log entry 3). -/
def event (cond : Bool) (act : State → State) (s : State) : Result :=
  .next (settle (if cond then act s else s))

/-! ### Frames -/

/-- The 32 bytes of a reply frame (R2). -/
def ReplyFrame.bytes (r : ReplyFrame) : List Byte :=
  replyHead r.kind r.tag r.status r.summary r.body ++ be16 r.crc.toNat

/-- The bits data out is driven with during a frame of `n` clocks (R3). -/
def shiftedOut (r : ReplyFrame) (n : Nat) : List Bool :=
  (bytesBits r.bytes).take n ++ List.replicate (n - Config.frameBits) true

/-- A frame from the fall of chip select to its rise, its bits clocked in and the slot's out (R3). DESIGN CHOICE,
unsafe (log entry 8). -/
def clockFrame (bits : List Bool) (s : State) : State :=
  { s with lp := { s.lp with
    frame := bits.take Config.frameBits, bitCount := bits.length, dataOut := shiftedOut s.lp.slot bits.length } }

/-- The delivery test of R19 for the reply that was in the slot during a frame of 256 bits. -/
def deliveryTest (s : State) : State :=
  if slotCarriesLost s.lp.slot && !s.lp.lostMarker then { s with lp := { s.lp with lost := false } } else s

/-- The link restored by a valid frame (R23). -/
def restoreLink (s : State) : State :=
  let s := { s with lp := { s.lp with link := .restoredWait } }
  ftEnd fLinkLost (post .linkRestored (min 65535 ((s.time - s.lp.lossTime) / Config.ms)) 0 s)

/-- The supervision timer restarted for a full T_link (R22). -/
def restartSupervision (s : State) : State :=
  { s with lp := { s.lp with supervision := some (s.time + s.lp.tLink * Config.ms) } }

/-- Step 1 of taking a valid frame (R7). -/
def takeFrame (s : State) : State :=
  deliveryTest
    (if s.inRun then
      if s.lp.link = .lost then restoreLink (restartSupervision s) else restartSupervision s
    else s)

/-- A reply formed into the slot (R7 step 5, R10). -/
def reply (kind tag : Byte) (status : Status) (body : List Byte) (s : State) : State :=
  { s with lp := { s.lp with slot := mkReply kind tag status.code (partSummary s) body } }

/-- What an owning block answers to a request: the status, the reply body and the state after it (R7 step 4). -/
structure Answer where
  status : Status
  body   : List Byte
  after  : State

/-- A request refused without a change of state (R11). -/
def refuse (status : Status) (s : State) : Answer := ⟨status, [], s⟩

/-- A request refused by an unmet interlock (R11). -/
def refuseCondition (code : Nat) (s : State) : Answer := ⟨.refusedCondition, be8 code, s⟩

/-- A request that no blocking entry of its class refuses (R11, R199). -/
def unlessBlocked (cls : FaultClass) (s : State) (go : Answer) : Answer :=
  match blockingEntry s.ft cls with
  | some i => ⟨.refusedFault, be8 i.val, s⟩
  | none => go

/-- A configuration request taken in CONFIG only, applied whole or refused by its range checks (R27, R28). -/
def configOnly (s : State) (ok : Bool) (body : List Byte) (after : State) : Answer :=
  if s.inRun then refuse .refusedState s
  else if ok then ⟨.ok, body, after⟩
  else refuse .refusedRange s

/-- A valid frame of a catalogued kind, from its bits to its reply (R7). -/
def takeRequest (kind : Byte) (size : Nat) (handler : Request → State → Answer) (f : Request) (s : State) : State :=
  let s := takeFrame (clockFrame (bytesBits (frameBytes kind f (crc16 (frameHead kind f)))) s)
  let a := if f.len.toNat = size then handler f s else refuse .refusedRange s
  reply kind f.tag a.status a.body (settle a.after)

/-- A valid frame of a kind outside the catalogue (R7 step 2). -/
def takeUnknown (kind : Byte) (f : Request) (s : State) : State :=
  let s := takeFrame (clockFrame (bytesBits (frameBytes kind f (crc16 (frameHead kind f)))) s)
  reply kind f.tag .refusedUnknown [] s

/-- A frame of 256 bits whose CRC does not match (R6). -/
def takeBadCrc (kind : Byte) (f : Request) (crc : Word16) (s : State) : State :=
  reply 255 f.tag .linkError (be8 1) (deliveryTest (clockFrame (bytesBits (frameBytes kind f crc)) s))

/-- The supervision timer expires and the loss is announced (R22, R23). -/
def linkLoss (s : State) : State :=
  let s := { s with lp := { s.lp with link := .lost, supervision := none, lossTime := s.time } }
  let s := ftStart fLinkLost s.lp.policy.code s
  tbcOnLoss (hcOnLoss (fdmOnLoss (scOnLoss s)))

/-- RESUME taken: the link is UP, LINK_LOST is cleared and the jobs are told (R24); the SC changes nothing (R136). -/
def resumeLink (s : State) : State :=
  tbcOnResume (hcOnResume (fdmOnResume (ftZero fLinkLost { s with lp := { s.lp with link := .up } })))

/-- The notice threshold set, and ATTN evaluated again (R20). -/
def setThreshold (n : Nat) (s : State) : State := { s with lp := evalAttn { s.lp with threshold := n } }

end Sys2Proof.Machine
end

