-- ==== Sys2Proof/Machine/Records.lean ====
section
/-! DEFINITION. The records as READ returns them (R13), field by field in their chapters' orders, and the notice
record as FETCH_NOTICE returns it (R15, R18). -/

namespace Sys2Proof.Machine

open Sys2Proof

/-- A part time field (chapter 00, "Time"). -/
def beTime (t : Nat) : List Byte := be16 (stamp t)

/-- A notice record (R15). -/
def noticeBytes (n : Notice) : List Byte :=
  be8 n.kind.code ++ be8 n.level ++ be8 n.source.code ++ beTime n.time ++ be16 n.v1.toNat ++ be16 n.v2.toNat

/-- READ SNAPSHOT of a role (R56). -/
def snapshotBytes (s : State) (r : Fin 16) : List Byte :=
  let e := s.mu.snapshot.entries[r]
  be16 s.mu.snapshot.run ++ beTime s.mu.snapshot.time ++ be8 r.val ++ beBool e.present
    ++ beInt (if e.present then e.value else 0) ++ beBool (e.present && e.valid)
    ++ be16 (if e.present then e.age else 0) ++ beBool s.mu.run.isSome ++ beBool s.mu.stopPending

/-- READ MOTION (R64). -/
def motionBytes (m : MotionRecord) : List Byte :=
  beTime m.time ++ be16 m.vR ++ be16 m.vF ++ be16 m.vG ++ beBool m.vGValid ++ be16 m.nIn ++ be16 m.nOut
    ++ be16 m.slip ++ beBool m.slipValid ++ be8 m.ringEntries ++ be16 m.lead ++ beBool m.leadValid
    ++ beBool m.standstill ++ be8 m.dir.code ++ beBool m.inputSuspect ++ beBool m.frontSuspect
    ++ beBool m.radarSuspect

/-- READ ENGINE (R74). -/
def engineBytes (e : EngineRecord) : List Byte :=
  be16 e.speed ++ be16 e.torque ++ beInt e.oil ++ beTime e.received ++ beBool e.stale ++ be16 e.effTorque
    ++ beInt e.effOil

/-- READ DRIVELINE (R110). -/
def drivelineBytes (d : Driveline) : List Byte :=
  beTime d.time ++ be8 d.dir.code ++ be8 d.gear ++ be8 d.state.code ++ be8 d.kind.code ++ be8 d.sense.code
    ++ be8 d.phase.code ++ be8 d.step ++ be8 d.tgtDir.code ++ be8 d.tgtGear ++ beBool d.above

/-- READ WINDOW (R105). -/
def windowBytes (w : GearWindow) : List Byte :=
  be8 1 ++ be8 w.gHigh ++ be8 w.reverseCap ++ be8 w.basis.code ++ beBool w.faultCap ++ beTime w.time

/-- READ HITCH (R152). -/
def hitchBytes (h : Hitch) : List Byte :=
  beTime h.changeTime ++ be8 h.state.code ++ be8 h.ret.code ++ beBool h.causeRequest ++ beBool h.causeSupply
    ++ beBool h.causeLink ++ beBool h.holdPending ++ beBool h.stopPosition ++ beBool h.stopStall
    ++ beBool h.stopOutput ++ be16 h.lever ++ beBool h.leverHeld ++ be8 h.mix ++ beBool h.slipLimiting
    ++ be16 h.pos ++ beBool h.posValid ++ beInt h.draft ++ beBool h.draftValid ++ be16 h.raiseCmd
    ++ be16 h.lowerCmd

/-- READ FRONT (R137). -/
def frontBytes (f : FrontDrive) : List Byte :=
  beTime f.changeTime ++ be8 f.state.code ++ be8 f.prev.code ++ be8 f.mode.code ++ be8 f.want.code
    ++ be8 f.blocked.code ++ beBool f.causeConfig ++ beBool f.causeSupply ++ beBool f.causeOutput
    ++ beBool f.causeLink ++ beBool f.slipDemand ++ (if f.state = .engageWait then beTime f.waitStart else be16 0)

/-- READ BRAKE (R177). -/
def brakeBytes (b : BrakeRecord) : List Byte :=
  beTime b.time ++ be8 b.mode.code ++ beBool b.present ++ be16 b.pPedal ++ beBool b.pedalValid ++ beBool b.braking
    ++ be16 b.hand ++ beBool b.verified ++ be8 b.check.code ++ be8 b.outcome.code ++ be16 b.pCmd ++ be16 b.ctrl
    ++ beBool b.ctrlValid ++ be8 b.supp.code ++ be16 b.suppP ++ beBool b.suppValid ++ beBool b.chargeOpen
    ++ be8 b.preBrake.code ++ beBool b.policyOn

/-- READ FAULT of an entry (R196). -/
def faultBytes (s : State) (i : Fin 47) : List Byte :=
  let e := s.ft[i]
  be8 i.val ++ be8 e.state.code ++ be8 e.count ++ beTime e.first ++ beTime e.last ++ be16 e.detail.toNat
    ++ be8 (faultLevel i) ++ be8 (faultClass i).code ++ beBool (faultBlocking i)

/-- A queue entry of READ QUEUE (R113). -/
def entryBytes (e : ShiftEntry) : List Byte := be8 e.kind.code ++ be8 e.gear ++ be8 e.dir.code ++ beTime e.time

/-- READ QUEUE (R113); the reply's zero padding fills the places beyond the count. -/
def queueBytes (q : List ShiftEntry) : List Byte := be8 q.length ++ q.flatMap entryBytes

/-- The body of an item of READ; none where the index is out of range (R13). -/
def readItem (s : State) (item : ReadItem) (index : Nat) : Option (List Byte) :=
  match item with
  | .snapshot => if h : index < 16 then some (snapshotBytes s ⟨index, h⟩) else none
  | .motion => some (motionBytes s.me.pub)
  | .engine => some (engineBytes s.me.engine)
  | .driveline => some (drivelineBytes s.sc.pub)
  | .window => some (windowBytes s.sc.window)
  | .hitch => some (hitchBytes s.hc)
  | .front => some (frontBytes s.fdm)
  | .brake => some (brakeBytes s.tbc.pub)
  | .fault => if h : index < 47 then some (faultBytes s ⟨index, h⟩) else none
  | .queue => some (queueBytes s.sc.queue)

end Sys2Proof.Machine
end

