-- ==== Sys2Proof/Machine/LinkCmds.lean ====
section
/-! DEFINITION. The Link Port's own requests (R12, R13, R18, R20, R21, R24) and SUPERVISION_EXPIRY (R22). -/

namespace Sys2Proof.Machine

open Sys2Proof

/-- POLL (R12). -/
def reqPoll (_ : Request) (s : State) : Answer := ⟨.ok, [], s⟩

/-- The body of STATUS (R12). -/
def statusBytes (s : State) : List Byte :=
  be8 s.pc.part.code ++ be8 s.lp.link.code ++ be8 s.lp.policy.code ++ be16 s.lp.tLink ++ be8 s.lp.threshold
    ++ be8 s.lp.notices.length ++ beBool s.lp.lost ++ be16 s.now ++ be8 (countActive s.ft) ++ be8 (countLatched s.ft)

/-- STATUS (R12); forming it with the notices-lost flag set clears the marker (R19). -/
def reqStatus (_ : Request) (s : State) : Answer :=
  ⟨.ok, statusBytes s, { s with lp := { s.lp with lostMarker := s.lp.lostMarker && !s.lp.lost } }⟩

/-- READ (R13). -/
def reqRead (f : Request) (s : State) : Answer :=
  match decReadItem (f.u8 0) with
  | none => refuse .refusedRange s
  | some item =>
    match readItem s item (f.u8 1) with
    | none => refuse .refusedRange s
    | some body => ⟨.ok, body, s⟩

/-- FETCH_NOTICE (R18). -/
def reqFetchNotice (_ : Request) (s : State) : Answer :=
  let out := s.lp.notices.take 2
  ⟨.ok, be8 out.length ++ out.flatMap noticeBytes,
    { s with lp := evalAttn { s.lp with notices := s.lp.notices.drop 2 } }⟩

/-- SET_NOTICE_LEVEL (R20). -/
def reqSetNoticeLevel (f : Request) (s : State) : Answer :=
  if f.u8 0 ≤ 3 then ⟨.ok, [], setThreshold (f.u8 0) s⟩ else refuse .refusedRange s

/-- CFG_LINK (R21). -/
def reqCfgLink (f : Request) (s : State) : Answer :=
  match decPolicy (f.u8 2) with
  | none => refuse .refusedRange s
  | some p =>
    if !inRange 20 1000 (f.u16 0) || !inRange 0 3 (f.u8 3) then refuse .refusedRange s
    else if s.inRun then
      if f.u16 0 = s.lp.tLink ∧ p = s.lp.policy then ⟨.ok, [], setThreshold (f.u8 3) s⟩
      else refuse .refusedState s
    else ⟨.ok, [], setThreshold (f.u8 3) { s with lp := { s.lp with tLink := f.u16 0, policy := p } }⟩

/-- RESUME (R24). -/
def reqResume (_ : Request) (s : State) : Answer :=
  if s.lp.link = .restoredWait then ⟨.ok, [], resumeLink s⟩ else refuse .refusedState s

def execPoll (f : Request) (s : State) : Result := .next (takeRequest 1 0 reqPoll f s)
def execStatus (f : Request) (s : State) : Result := .next (takeRequest 2 0 reqStatus f s)
def execRead (f : Request) (s : State) : Result := .next (takeRequest 3 2 reqRead f s)
def execFetchNotice (f : Request) (s : State) : Result := .next (takeRequest 4 0 reqFetchNotice f s)
def execSetNoticeLevel (f : Request) (s : State) : Result := .next (takeRequest 5 1 reqSetNoticeLevel f s)
def execCfgLink (f : Request) (s : State) : Result := .next (takeRequest 6 4 reqCfgLink f s)
def execResume (f : Request) (s : State) : Result := .next (takeRequest 7 0 reqResume f s)

/-- SUPERVISION_EXPIRY (R22): in RUN, when the supervision timer has run out. -/
def execSupervisionExpiry (s : State) : Result := event (s.inRun && s.due s.lp.supervision) linkLoss s

end Sys2Proof.Machine
end

