-- ==== Sys2Proof/Machine/PartCmds.lean ====
section
/-! DEFINITION. The Part Configuration's commands (chapter 02): POWER_ON (R26, R37), CFG_LIMITS (R30), LOCK_LIMITS
(R31), START with its checks and every block's initial state (R32 to R34), and RESTART (R35, R36). -/

namespace Sys2Proof.Machine

open Sys2Proof

/-- POWER_ON (R26, R37): everything but the commands that wait. DESIGN CHOICE, safe (log entry 2). -/
def execPowerOn (s : State) : Result := .next { State.reset with pending := s.pending }

/-! ### The limit set -/

/-- The limit set a CFG_LIMITS body carries (R29). -/
def limitsOf (f : Request) : LimitSet :=
  { gMaxRoad := f.u8 0, gMaxUnverified := f.u8 1, gMaxField := f.u8 2, rMax := f.u8 3, pTrlMax := f.u16 4
    pHitchUpperHard := f.u16 6, vShuttleMax := f.u16 8, nEngineMax := f.u16 10 }

/-- Every field of a limit set lies in its range (R29). -/
def LimitSet.inRange (l : LimitSet) : Bool :=
  Machine.inRange 1 12 l.gMaxRoad && Machine.inRange 1 12 l.gMaxUnverified && Machine.inRange 1 12 l.gMaxField
    && Machine.inRange 1 12 l.rMax && Machine.inRange 0 1500 l.pTrlMax && Machine.inRange 0 1000 l.pHitchUpperHard
    && Machine.inRange 0 20000 l.vShuttleMax && Machine.inRange 1000 4000 l.nEngineMax

/-- The limit set is consistent (R29). -/
def LimitSet.consistent (l : LimitSet) : Bool :=
  decide (l.gMaxUnverified ≤ l.gMaxRoad ∧ l.gMaxField ≤ l.gMaxRoad)

/-- The eight fields of the limit set as a body (R29). -/
def limitBytes (l : LimitSet) : List Byte :=
  be8 l.gMaxRoad ++ be8 l.gMaxUnverified ++ be8 l.gMaxField ++ be8 l.rMax ++ be16 l.pTrlMax
    ++ be16 l.pHitchUpperHard ++ be16 l.vShuttleMax ++ be16 l.nEngineMax

/-- CFG_LIMITS (R30). -/
def reqCfgLimits (f : Request) (s : State) : Answer :=
  if s.inRun then refuse .refusedState s
  else if s.pc.lock then refuse .refusedLocked s
  else if (limitsOf f).inRange then ⟨.ok, [], { s with pc := { s.pc with limits := limitsOf f } }⟩
  else refuse .refusedRange s

/-- LOCK_LIMITS (R31). -/
def reqLockLimits (_ : Request) (s : State) : Answer :=
  if s.pc.limits.consistent then
    ⟨.ok, beBool s.pc.lock ++ limitBytes s.pc.limits, { s with pc := { s.pc with lock := true } }⟩
  else refuseCondition 1 s

/-! ### The START checks (R33) -/

/-- A failing check: its number and its two details. -/
abbrev CheckFail := Nat × Nat × Nat

/-- Some enabled gear satisfies `p` of its number and entry. -/
def anyGear (gs : Vector GearEntry 12) (p : Nat → GearEntry → Bool) : Bool :=
  (List.range 12).any fun i => gearEnabled gs (i + 1) && p (i + 1) (gearAt gs (i + 1))

/-- Check 1. -/
def checkGears (s : State) : Option CheckFail :=
  if anyGear s.sc.gears fun _ _ => true then none else some (1, 0, 0)

/-- Check 2. -/
def checkMap (s : State) : Option CheckFail :=
  (List.finRange 7).findSome? fun e =>
    match s.sc.map[e] with
    | none => some (2, e.val, 0)
    | some p => if (s.sc.profiles[p]).isEmpty then some (2, e.val, 1) else none

/-- A clutch is used by an enabled gear (R33). -/
def clutchUsed (s : State) (c : Fin 9) : Bool :=
  if c.val < 4 then anyGear s.sc.gears fun _ e => decide (speedClutch e = c)
  else if c.val < 7 then anyGear s.sc.gears fun _ e => decide (rangeClutch e = c)
  else if c.val = 7 then anyGear s.sc.gears fun _ _ => true
  else anyGear s.sc.gears fun g _ => decide (g ≤ s.pc.limits.rMax)

/-- Check 3. -/
def checkClutches (s : State) : Option CheckFail :=
  (List.finRange 9).findSome? fun c =>
    if clutchUsed s c then
      if roleAssigned s.mu.steps c.val then
        if (s.vo.chan[clutchChan c]).charac.isSome then none else some (3, c.val, 1)
      else some (3, c.val, 0)
    else none

/-- The number of the first point below the one before it, from point number `n` on (R33 check 4). -/
def firstDecrease : Nat → List (Nat × Nat) → Option Nat
  | n, a :: b :: rest => if b.1 < a.1 ∨ b.2 < a.2 then some (n + 1) else firstDecrease (n + 1) (b :: rest)
  | _, _ => none

/-- Check 4. -/
def checkCurve (s : State) : Option CheckFail :=
  let n := s.tbc.curve.length
  if 2 ≤ n ∧ n ≤ 8 then (firstDecrease 1 s.tbc.curve).map fun i => (4, n, i) else some (4, n, 0)

/-- The roles of check 5 in its order. -/
def requiredRoles : List (Fin 16) := [roleSupply, rolePos, rolePedalL, rolePedalR, roleCtrl, roleSupp]

/-- Check 5. -/
def checkRoles (s : State) : Option CheckFail :=
  (requiredRoles.find? fun r => !roleAssigned s.mu.steps r.val).map fun r => (5, r.val, 0)

/-- Check 6. -/
def checkMode (s : State) : Option CheckFail :=
  if s.mu.scanMode = .single then some (6, s.mu.scanMode.code, 0) else none

/-- Check 7. -/
def checkLimits (s : State) : Option CheckFail :=
  if s.pc.limits.gMaxRoad < s.pc.limits.gMaxUnverified then some (7, 1, 0)
  else if s.pc.limits.gMaxRoad < s.pc.limits.gMaxField then some (7, 2, 0)
  else none

/-- The first START check that fails (R32, R33). -/
def startChecks (s : State) : Option CheckFail :=
  [checkGears, checkMap, checkClutches, checkCurve, checkRoles, checkMode, checkLimits].findSome? fun c => c s

/-! ### START (R34) -/

/-- The MU at START: a single run aborted, the sequencer, the converter and the comparator started (R34 step 3). -/
def startMeasure (s : State) : State :=
  let s := { s with mu := { s.mu with
    run := none, stopPending := false, dc := startDraft s.mu.cfg s.time, foc := startFast s.time, draft := {}
    stale := some (s.time + Config.scanStaleTime) } }
  nextRun s

/-- A channel at START (R77, R83). -/
def startChan (t : Nat) (ch : Chan) : Chan := { charac := ch.charac, diag := some (t + Config.diagPeriod) }

/-- The VO at START (R77, R83, R90, R92). -/
def startValves (s : State) : State :=
  ftStart fSupplyLow (s.roleValueOr0 roleSupply) { s with vo := { s.vo with
    chan := s.vo.chan.map (startChan s.time), supply := .low, supplyHold := none } }

/-- The ME at START (R63, R64, R74, R75). -/
def startMotion (s : State) : State :=
  { s with me := {
      engine := { s.me.engine with stale := false }
      updateDue := some (s.time + Config.motionPeriod), engineStale := some (s.time + Config.engineStaleTime) } }

/-- The SC with its tables and parameters kept and everything else as at power-on, at `t` (R110, R113). -/
def clearShift (t : Nat) (c : ShiftCtl) : ShiftCtl :=
  { gears := c.gears, profiles := c.profiles, map := c.map, kLoad := c.kLoad, pFillDetect := c.pFillDetect
    wSync := c.wSync, window := c.window, pub := { time := t } }

/-- The TBC with its settings and curve kept and everything else as at power-on, at `t` (R177). -/
def clearTrailer (t : Nat) (b : TrailerBrake) : TrailerBrake :=
  { curve := b.curve, pBrakeOn := b.pBrakeOn, pPre := b.pPre, pSafe := b.pSafe
    cur := { time := t }, pub := { time := t } }

/-- The SC at START: IDLE in neutral, its commands written, the gear window computed with the brake record as the
TBC's initial state holds it (R105, R110, R111). -/
def startShiftCtl (s : State) : State :=
  scWindow true (writeClutches (.replicate 9 0)
    { s with sc := clearShift s.time s.sc, tbc := clearTrailer s.time s.tbc })

/-- The FDM with its thresholds kept and the fields that START and RESTART share (R137). -/
def clearFront (t : Nat) (f : FrontDrive) : FrontDrive :=
  { vOn := f.vOn, vOff := f.vOff, vCheck := f.vCheck, s4wd := f.s4wd, aTurn := f.aTurn, leadLow := f.leadLow
    leadHigh := f.leadHigh, changeTime := t, prev := f.prev, mode := f.mode }

/-- The FDM at START (R137). -/
def startFront (s : State) : State :=
  { s with fdm := { clearFront s.time s.fdm with mode := .auto, causeConfig := false, causeSupply := true } }

/-- The HC at START (R152). -/
def startHitch (s : State) : State :=
  { s with hc := { cfg := s.hc.cfg, changeTime := s.time, causeSupply := true } }

/-- The TBC at START: its commands formed and written, its record published (R177), and the gear window computed
again at that publication (R105). The FDM's initial state, with want KEEP, stands (R137). DEDUCED, unsafe
(log entry 12). -/
def startTrailer (s : State) : State :=
  let s := tbcForm { s with tbc := clearTrailer s.time s.tbc }
  let s := writeChan chSupp 0 (writeChan chCtrl s.tbc.cur.pCmd s)
  scWindow false { s with tbc := { s.tbc with pub := s.tbc.cur } }

/-- START taken (R34). DEDUCED, unsafe (log entry 12). -/
def startPart (s : State) : State :=
  let s := restartSupervision { s with pc := { s.pc with part := .run }, lp := { s.lp with link := .up } }
  startTrailer (startHitch (startFront (startShiftCtl (startMotion (startValves (startMeasure s))))))

/-- START (R32, R34). -/
def reqStart (_ : Request) (s : State) : Answer :=
  if s.inRun then refuse .refusedState s
  else match startChecks s with
    | some (n, a, b) => ⟨.refusedConfig, be8 n ++ be8 a ++ be8 b, s⟩
    | none => ⟨.ok, [], startPart s⟩

/-! ### RESTART (R35, R36) -/

/-- The LP after RESTART (R25). -/
def restartLink (lp : LinkPort) : LinkPort :=
  evalAttn { lp with notices := [], lost := false, lostMarker := false, link := .up, supervision := none }

/-- The MU after RESTART (R36, R44, R45, R46, R53, R59, R60): the tables, the snapshot, the values held and the pulse
capture are kept. -/
def restartMeasure (m : Measure) : Measure :=
  { m with
    dc := {}, foc := {}, draft := {}, draftInvalid := 0, run := none, stopPending := false, stale := none
    mem := m.mem.map fun r => { r with invalid := 0 } }

/-- RESTART taken (R35). -/
def restartPart (s : State) : State :=
  { s with
    pc := { s.pc with part := .config }
    lp := restartLink s.lp
    mu := restartMeasure s.mu
    me := { s.me with updateDue := none, engineStale := none, engine := { s.me.engine with stale := false } }
    vo := { s.vo with chan := s.vo.chan.map fun ch => { charac := ch.charac }, supply := .low, supplyHold := none }
    sc := clearShift s.time s.sc
    fdm := { clearFront s.time s.fdm with prev := s.fdm.state }
    hc := { cfg := s.hc.cfg, changeTime := s.time }
    tbc := clearTrailer s.time s.tbc
    ft := .replicate 47 {}
    undelivered := 0 }

/-- RESTART (R35). -/
def reqRestart (_ : Request) (s : State) : Answer := ⟨.ok, [], restartPart s⟩

def execRestart (f : Request) (s : State) : Result := .next (takeRequest 8 0 reqRestart f s)
def execStart (f : Request) (s : State) : Result := .next (takeRequest 9 0 reqStart f s)
def execCfgLimits (f : Request) (s : State) : Result := .next (takeRequest 10 12 reqCfgLimits f s)
def execLockLimits (f : Request) (s : State) : Result := .next (takeRequest 11 0 reqLockLimits f s)

end Sys2Proof.Machine
end

