-- ==== Sys2Proof/Machine/MeasureCmds.lean ====
section
/-! DEFINITION. The Measurement Unit's commands: its requests (R39, R49, R52, R53, R57, R61) and the events of the
draft converter, the comparator, the scan sequencer and the pulse inputs (R40 to R62). -/

namespace Sys2Proof.Machine

open Sys2Proof

/-! ### Requests -/

/-- The scan step a CFG_SCAN_STEP body carries (R49). -/
def scanStepOf (f : Request) : ScanStep := { enabled := decide (f.u8 1 = 1), pin := f.u8 2, role := f.u8 3 }

/-- CFG_SCAN_STEP applied (R49, R59). -/
def setScanStep (f : Request) (mode : ScanMode) (s : State) : State :=
  dropUnassigned { s with mu := { s.mu with
    steps := s.mu.steps.setIfInBounds (f.u8 0) (scanStepOf f), muxDelay := f.u8 4, scanMode := mode } }

/-- CFG_SCAN_STEP (R49). -/
def reqCfgScanStep (f : Request) (s : State) : Answer :=
  let ok := inRange 0 15 (f.u8 0) && inRange 0 1 (f.u8 1) && inRange 0 15 (f.u8 2) && inRange 0 16 (f.u8 3)
    && inRange 0 7 (f.u8 4) && (decScanMode (f.u8 5)).isSome
  configOnly s ok [] (setScanStep f ((decScanMode (f.u8 5)).getD .single) s)

/-- CFG_ROLE (R57). -/
def reqCfgRole (f : Request) (s : State) : Answer :=
  configOnly s (inRange 0 15 (f.u8 0) && inRange 0 4095 (f.u16 1)) []
    { s with mu := { s.mu with scales := s.mu.scales.setIfInBounds (f.u8 0) ⟨f.u16 1, f.s16 3⟩ } }

/-- The settings a CFG_DRAFT body carries (R39). -/
def draftCfgOf (f : Request) : DraftCfg :=
  { tD := f.u8 0, chop := decide (f.u8 1 = 1), chopDelay := f.u8 2, leftLow := f.s16 3, leftHigh := f.s16 5
    rightLow := f.s16 7, rightHigh := f.s16 9, dShock := f.u16 11, nShock := f.u8 13 }

/-- A window of a CFG_DRAFT lies in its range with its low bound below its high bound (R39). -/
def windowOk (lo hi : Int) : Bool := inRangeI (-4096) 4095 lo && inRangeI (-4096) 4095 hi && decide (lo < hi)

/-- CFG_DRAFT (R39). -/
def reqCfgDraft (f : Request) (s : State) : Answer :=
  let c := draftCfgOf f
  let ok := decide (c.tD = 1 ∨ c.tD = 2 ∨ c.tD = 4) && inRange 0 1 (f.u8 1) && inRange 0 3 c.chopDelay
    && windowOk c.leftLow c.leftHigh && windowOk c.rightLow c.rightHigh && inRange 0 6000 c.dShock
    && inRange 1 255 c.nShock
  configOnly s ok [] { s with mu := { s.mu with cfg := c } }

/-- A pulse input calibrated by a CFG_SPEED_INPUT; its capture is kept (R61). -/
def calibrate (f : Request) (p : Pulse) : Pulse :=
  { p with calibrated := true, ppr := f.u8 1, k := f.u16 2, present := decide (f.u8 4 = 1) }

/-- CFG_SPEED_INPUT (R61). -/
def reqCfgSpeedInput (f : Request) (s : State) : Answer :=
  let ok := inRange 0 3 (f.u8 0) && inRange 1 255 (f.u8 1) && inRange 1 65535 (f.u16 2) && inRange 0 1 (f.u8 4)
    && decide (f.u8 4 = 1 ∨ f.u8 0 = 3)
  configOnly s ok []
    (if h : f.u8 0 < 4 then modPulse ⟨f.u8 0, h⟩ (calibrate f) s else s)

/-- SCAN_START (R52). -/
def reqScanStart (_ : Request) (s : State) : Answer :=
  configOnly s true (beBool s.mu.run.isSome ++ be16 ((s.mu.runCounter + 1) % Config.wrap16))
    (startRun (abortRun { s with mu := { s.mu with stopPending := false } }))

/-- SCAN_STOP (R53). -/
def reqScanStop (_ : Request) (s : State) : Answer :=
  configOnly s true (beBool s.mu.run.isSome)
    (if s.mu.run.isSome then { s with mu := { s.mu with stopPending := true } } else s)

def execCfgScanStep (f : Request) (s : State) : Result := .next (takeRequest 12 6 reqCfgScanStep f s)
def execCfgRole (f : Request) (s : State) : Result := .next (takeRequest 13 5 reqCfgRole f s)
def execCfgDraft (f : Request) (s : State) : Result := .next (takeRequest 14 14 reqCfgDraft f s)
def execCfgSpeedInput (f : Request) (s : State) : Result := .next (takeRequest 15 5 reqCfgSpeedInput f s)
def execScanStart (f : Request) (s : State) : Result := .next (takeRequest 16 0 reqScanStart f s)
def execScanStop (f : Request) (s : State) : Result := .next (takeRequest 17 0 reqScanStop f s)

/-! ### Events of the draft converter and the comparator -/

/-- A conversion start at the DC, then the scan run that TRACK starts with it (R40, R41, R51). -/
def conversionStarts (s : State) : State :=
  match s.mu.dc.startDue with
  | some d => trackStart { s with mu := { s.mu with dc := draftStarted s.mu.cfg d s.mu.dc } }
  | none => s

/-- CONVERSION_START (R40, R41), when the next conversion is due to start. -/
def execConversionStart (s : State) : Result := event (s.mu.dc.running && s.due s.mu.dc.startDue) conversionStarts s

/-- The conversion in progress ends, when it is due to (R40). -/
def conversionEnds (l r : Int) (s : State) : State :=
  match s.mu.dc.ends with
  | e :: _ => draftEnded e l r s
  | [] => s

/-- CONVERSION_END (R40 to R43). -/
def execConversionEnd (left right : BitVec 13) (s : State) : Result :=
  event (s.mu.dc.running && s.due s.mu.dc.ends.head?) (conversionEnds left.toInt right.toInt) s

/-- FAST_SAMPLE (R46 to R48), when the next sample is due. -/
def execFastSample (left right : BitVec 13) (s : State) : Result :=
  event (s.mu.foc.running && s.due (some s.mu.foc.sampleDue)) (fastSample left.toInt right.toInt) s

/-- SHOCK_TIMER_EXPIRY (R166), in SHOCK when the shock timer has run out. -/
def execShockTimerExpiry (s : State) : Result :=
  event (decide (s.hc.state = .shock) && s.due s.hc.shockTimer) (hcChange .control .lockedOut) s

/-! ### Events of the scan sequencer -/

/-- An event of the run in progress. -/
def onRun (act : ScanRun → State → State) (s : State) : State :=
  match s.mu.run with
  | some run => act run s
  | none => s

/-- The delay of the step reached is over (R50). -/
def delayDue (s : State) : Bool :=
  match s.mu.run with
  | some run => !run.converting && s.due (some (run.since + run.delay * 100))
  | none => false

/-- The step reached converts, for `t` microseconds or more (R50, R54). -/
def convertingFor (s : State) (t : Nat) : Bool :=
  match s.mu.run with
  | some run => run.converting && s.due (some (run.since + t))
  | none => false

/-- SCAN_STEP_DELAY_END (R50). -/
def execScanStepDelayEnd (s : State) : Result := event (delayDue s) (onRun delayEnds) s

/-- SCAN_STEP_CONVERSION_END (R50, R55). -/
def execScanStepConversionEnd (raw : BitVec 12) (s : State) : Result :=
  event (convertingFor s Config.scanConvTime) (onRun fun run s => stepConverted run raw.toNat s) s

/-- SCAN_CONVERSION_TIMEOUT (R54). -/
def execScanConversionTimeout (s : State) : Result :=
  event (convertingFor s Config.scanConvLimit) (fun s => nextRun (abortRun s)) s

/-- SCAN_STALE_EXPIRY (R60). -/
def execScanStaleExpiry (s : State) : Result := event (s.inRun && s.due s.mu.stale) scanStale s

/-! ### Events of the pulse inputs -/

/-- PULSE_EDGE (R62): an input that is not calibrated holds no capture (R61). -/
def execPulseEdge (inp : PulseIn) (s : State) : Result :=
  event ((s.mu.pulse[pulseIdx inp]).calibrated) (modPulse (pulseIdx inp) (pulseEdgeAt s.time)) s

/-- PULSE_GAP_EXPIRY (R62). -/
def execPulseGapExpiry (inp : PulseIn) (s : State) : Result :=
  event (s.due (s.mu.pulse[pulseIdx inp]).gap) (modPulse (pulseIdx inp) pulseStopped) s

end Sys2Proof.Machine
end

