-- ==== Sys2Proof/Machine/MotionCmds.lean ====
section
/-! DEFINITION. The Motion Estimator's commands: MOTION_UPDATE (R63), ENGINE_INFO (R73) and
ENGINE_INFO_STALE_EXPIRY (R75). -/

namespace Sys2Proof.Machine

open Sys2Proof

/-- MOTION_UPDATE (R63), in RUN when the update timer has run out. -/
def execMotionUpdate (s : State) : Result := event (s.inRun && s.due s.me.updateDue) motionUpdate s

/-- ENGINE_INFO (R73). -/
def reqEngineInfo (f : Request) (s : State) : Answer :=
  let speed := min 4000 (f.u16 0)
  let torque := min 1000 (f.u16 2)
  let oil := clampI (-40) 150 (f.s16 4)
  let same := decide (speed = f.u16 0 ∧ torque = f.u16 2 ∧ oil = f.s16 4)
  ⟨if same then .ok else .okClamped, be16 speed ++ be16 torque ++ beInt oil, takeEngine speed torque oil s⟩

def execEngineInfo (f : Request) (s : State) : Result := .next (takeRequest 18 6 reqEngineInfo f s)

/-- ENGINE_INFO_STALE_EXPIRY (R75). -/
def execEngineInfoStaleExpiry (s : State) : Result := event (s.inRun && s.due s.me.engineStale) engineExpires s

end Sys2Proof.Machine
end

