-- ==== Sys2Proof/Machine/ValveCmds.lean ====
section
/-! DEFINITION. The Valve Output Stage's commands: CFG_OUTPUT (R78), CFG_SUPPLY (R89), and the diagnostic sample
(R83), the over-current trip (R85) and the supply monitor's own timer (R90). -/

namespace Sys2Proof.Machine

open Sys2Proof

/-- The parameters of a characteristic lie in their ranges and relations for the channel (R78). -/
def characOk (i : Fin 14) (c : Charac) : Bool :=
  match chanForm i with
  | .clutch => inRange 0 2000 c.a && inRange 0 2000 c.b && inRange 1 2000 c.c && decide (c.a ≤ c.c)
  | .hitch => inRange 0 2000 c.a && inRange 1 2000 c.b && decide (c.c = 0) && decide (c.a ≤ c.b)
  | .onOff => inRange 1 2000 c.a && decide (c.b = 0) && decide (c.c = 0)

/-- A channel's characteristic replaced (R78). -/
def setCharac (i : Fin 14) (c : Charac) (s : State) : State :=
  formDrive i (modChan i (fun ch => { ch with charac := some c }) s)

/-- CFG_OUTPUT (R78). -/
def reqCfgOutput (f : Request) (s : State) : Answer :=
  let c : Charac := ⟨f.u16 1, f.u16 3, f.u16 5⟩
  if h : f.u8 0 < 14 then configOnly s (characOk ⟨f.u8 0, h⟩ c) [] (setCharac ⟨f.u8 0, h⟩ c s)
  else configOnly s false [] s

/-- CFG_SUPPLY (R89). -/
def reqCfgSupply (f : Request) (s : State) : Answer :=
  configOnly s (inRange 0 300 (f.u16 0) && inRange 0 300 (f.u16 2) && decide (f.u16 0 < f.u16 2)) []
    { s with vo := { s.vo with pLow := f.u16 0, pOk := f.u16 2 } }

def execCfgOutput (f : Request) (s : State) : Result := .next (takeRequest 19 7 reqCfgOutput f s)
def execCfgSupply (f : Request) (s : State) : Result := .next (takeRequest 20 4 reqCfgSupply f s)

/-- DIAGNOSTIC_SAMPLE (R83), in RUN when the channel's next sample is due. -/
def execDiagnosticSample (ch : Channel) (current : Word16) (off : OffState) (s : State) : Result :=
  event (s.inRun && s.due (s.vo.chan[chanIdx ch]).diag) (diagSample (chanIdx ch) current.toNat off) s

/-- OVERCURRENT_TRIP (R85), in RUN while the drive current is above 0. -/
def execOvercurrentTrip (ch : Channel) (current : Word16) (s : State) : Result :=
  event (s.inRun && decide (0 < (s.vo.chan[chanIdx ch]).drive ∧ Config.tripCurrent < current.toNat))
    (forceChannel (chanIdx ch) detailShort) s

/-- SUPPLY_QUALIFICATION_EXPIRY (R90). -/
def execSupplyQualificationExpiry (s : State) : Result :=
  event (s.inRun && supplyExpired s) (supplyChange .low) s

end Sys2Proof.Machine
end

