-- ==== Sys2Proof/Machine/GearCmds.lean ====
section
/-! DEFINITION. The Shift Controller's table requests: CFG_GEAR (R94), CFG_PROFILE_STEP (R104) and CFG_PROFILE_MAP
(R100). -/

namespace Sys2Proof.Machine

open Sys2Proof

/-- A clutch of a list of `n + 1` by its code; codes beyond the list, which no request stores, read as the first. -/
def codeFin (n code : Nat) : Fin (n + 1) := if h : code < n + 1 then ⟨code, h⟩ else 0

/-- The gear table entry a CFG_GEAR body carries (R94). -/
def gearOf (f : Request) : GearEntry :=
  { isSet := true, enabled := decide (f.u8 1 = 1), speed := codeFin 3 (f.u8 2), range := codeFin 2 (f.u8 3)
    ratio := f.u16 4, pLock := f.u8 6 }

/-- CFG_GEAR (R94). -/
def reqCfgGear (f : Request) (s : State) : Answer :=
  let ok := inRange 1 12 (f.u8 0) && inRange 0 1 (f.u8 1) && inRange 0 3 (f.u8 2) && inRange 0 2 (f.u8 3)
    && inRange 1000 30000 (f.u16 4) && inRange 1 250 (f.u8 6)
  configOnly s ok [] { s with sc := { s.sc with gears := s.sc.gears.setIfInBounds (f.u8 0 - 1) (gearOf f) } }

/-- An action with its pressure in range (R102, R104). -/
def actionOf (type p : Nat) : Option Action :=
  match decAction type with
  | none => none
  | some t =>
    if inRange 0 250 p && (decide (t ≠ .hold ∧ t ≠ .dump) || decide (p = 0)) then some ⟨t, p⟩ else none

/-- The step a CFG_PROFILE_STEP body carries, absent where a field is out of range (R101, R104). -/
def profileStepOf (f : Request) : Option ProfileStep :=
  match decLabel (f.u8 3), decEndCond (f.u8 4), actionOf (f.u8 7) (f.u8 8), actionOf (f.u8 9) (f.u8 10),
      actionOf (f.u8 11) (f.u8 12), actionOf (f.u8 13) (f.u8 14) with
  | some label, some ec, some a, some b, some c, some d =>
    if inRange (if ec = .time then 0 else 1) 2000 (f.u16 5) then some ⟨label, ec, f.u16 5, a, b, c, d⟩ else none
  | _, _, _, _, _, _ => none

/-- The profile with step `n` replaced, or appended where `n` is the step count (R104). -/
def putStep (steps : List ProfileStep) (n : Nat) (st : ProfileStep) : List ProfileStep :=
  if n < steps.length then steps.set n st else steps ++ [st]

/-- One profile replaced; the reply carries its step count (R104). -/
def setProfile (p : Fin 8) (steps : List ProfileStep) (s : State) : Answer :=
  ⟨.ok, be8 steps.length, { s with sc := { s.sc with profiles := s.sc.profiles.set p steps } }⟩

/-- The profile and the step number of a CFG_PROFILE_STEP are in range and leave no gap (R104). -/
def profileAt (f : Request) (s : State) : Option (Fin 8) :=
  if h : f.u8 0 < 8 then
    if f.u8 1 ≤ 11 ∧ f.u8 1 ≤ (s.sc.profiles[(⟨f.u8 0, h⟩ : Fin 8)]).length then some ⟨f.u8 0, h⟩ else none
  else none

/-- CFG_PROFILE_STEP with an operation other than TRUNCATE: WRITE, or a code beyond the list (R104). -/
def reqProfileWrite (f : Request) (s : State) : Answer :=
  if s.inRun then refuse .refusedState s
  else if f.u8 2 ≠ 0 then refuse .refusedRange s
  else match profileAt f s, profileStepOf f with
    | some p, some st => setProfile p (putStep s.sc.profiles[p] (f.u8 1) st) s
    | _, _ => refuse .refusedRange s

/-- CFG_PROFILE_STEP with operation TRUNCATE (R104). -/
def reqProfileTruncate (f : Request) (s : State) : Answer :=
  if s.inRun then refuse .refusedState s
  else match profileAt f s with
    | some p => setProfile p ((s.sc.profiles[p]).take (f.u8 1)) s
    | none => refuse .refusedRange s

/-- CFG_PROFILE_STEP by its operation byte (R104). -/
def reqCfgProfileStep (f : Request) (s : State) : Answer :=
  if f.u8 2 = 1 then reqProfileTruncate f s else reqProfileWrite f s

/-- CFG_PROFILE_MAP (R100). -/
def reqCfgProfileMap (f : Request) (s : State) : Answer :=
  configOnly s (inRange 0 6 (f.u8 0) && inRange 0 7 (f.u8 1)) []
    { s with sc := { s.sc with map := s.sc.map.setIfInBounds (f.u8 0) (some (codeFin 7 (f.u8 1))) } }

def execCfgGear (f : Request) (s : State) : Result := .next (takeRequest 21 7 reqCfgGear f s)
def execCfgProfileStepWrite (f : Request) (s : State) : Result := .next (takeRequest 22 15 reqCfgProfileStep f s)
def execCfgProfileStepTruncate (f : Request) (s : State) : Result := .next (takeRequest 22 15 reqCfgProfileStep f s)
def execCfgProfileMap (f : Request) (s : State) : Result := .next (takeRequest 23 2 reqCfgProfileMap f s)

end Sys2Proof.Machine
end

