-- ==== Sys2Proof/Machine/ShiftCmds.lean ====
section
/-! DEFINITION. The Shift Controller's commands: CFG_SHIFT (R112), SHIFT and SHUTTLE (R113 to R116), NEUTRAL (R117)
and its events (R118, R119, R121, R127, R129, R130). -/

namespace Sys2Proof.Machine

open Sys2Proof

/-- CFG_SHIFT (R112). -/
def reqCfgShift (f : Request) (s : State) : Answer :=
  configOnly s (inRange 0 500 (f.u16 0) && inRange 1 250 (f.u8 2) && inRange 1 500 (f.u16 3)) []
    { s with sc := { s.sc with kLoad := f.u16 0, pFillDetect := f.u8 2, wSync := f.u16 3 } }

/-- The base position of a SHIFT or SHUTTLE (R114). -/
def basePosition (s : State) : Dir × Nat :=
  match s.sc.queue.getLast? with
  | some e => (e.dir, e.gear)
  | none =>
    match s.sc.shift, s.sc.pub.state with
    | some run, .stepping => (run.tgtDir, run.tgtGear)
    | some run, .recovering => (run.prevDir, run.prevGear)
    | _, _ => (s.sc.pub.dir, s.sc.pub.gear)

/-- The body of a taken SHIFT or SHUTTLE (R115). -/
def shiftBody (raw g : Nat) (d : Dir) (count : Nat) : List Byte := be8 raw ++ be8 g ++ be8 d.code ++ be8 count

/-- An entry appended, which enters PENDING at once where the SC is IDLE (R116). -/
def appendEntry (e : ShiftEntry) (s : State) : State :=
  let s' := { s with sc := { s.sc with queue := s.sc.queue ++ [e] } }
  if s.sc.pub.state = .idle then pendNext s' else s'

/-- Checks 8 to 11 of R115 for a raw target. -/
def acceptShift (kind : EntryKind) (d : Dir) (raw : Nat) (s : State) : Answer :=
  match resolveGear s.sc.gears (capOf s.sc.window d) raw with
  | none => refuseCondition 4 s
  | some g =>
    if (d, g) = basePosition s then ⟨.okMerged, shiftBody raw g d s.sc.queue.length, s⟩
    else if Config.shiftCap ≤ s.sc.queue.length then refuse .refusedQueueFull s
    else ⟨if g = raw then .okQueued else .okClamped, shiftBody raw g d (s.sc.queue.length + 1),
      appendEntry ⟨kind, g, d, s.time⟩ s⟩

/-- A SHIFT form with its value and engage direction in range (R114, R115 check 3). -/
inductive ShiftForm where
  | absolute (g : Nat) (engage : Dir)
  | relative (step : Int)
deriving DecidableEq, Repr

/-- The form a SHIFT body carries, absent where it is out of range (R115 check 3). -/
def shiftForm (f : Request) : Option ShiftForm :=
  match decEngageDir (f.u8 2) with
  | none => none
  | some d =>
    match f.u8 0 with
    | 0 => if inRangeI 1 12 (f.s8 1) then some (.absolute (f.s8 1).toNat d) else none
    | 1 => if inRangeI (-3) 3 (f.s8 1) then some (.relative (f.s8 1)) else none
    | _ => none

/-- Check 6 of R115, then the rest. -/
def acceptUnlessAbove (d : Dir) (raw : Nat) (s : State) : Answer :=
  let base := basePosition s
  if s.sc.pub.above = true ∧ d = .f ∧ base.1 = .f ∧ base.2 < raw then refuseCondition 1 s
  else acceptShift .gear d raw s

/-- Checks 5 to 11 of R115 for a SHIFT. -/
def judgeShift (form : ShiftForm) (s : State) : Answer :=
  let base := basePosition s
  match form with
  | .absolute g engage => acceptUnlessAbove (if base.1 = .n then engage else base.1) g s
  | .relative step =>
    if base.1 = .n then refuseCondition 3 s
    else if inRangeI 1 12 ((base.2 : Int) + step) then acceptUnlessAbove base.1 ((base.2 : Int) + step).toNat s
    else refuse .refusedRange s

/-- SHIFT (R115). -/
def reqShift (f : Request) (s : State) : Answer :=
  if !s.inRun then refuse .refusedState s
  else if s.lp.link = .restoredWait then refuse .refusedState s
  else match shiftForm f with
    | none => refuse .refusedRange s
    | some form => unlessBlocked .gearbox s (judgeShift form s)

/-- Checks 5 to 11 of R115 for a SHUTTLE. -/
def judgeShuttle (s : State) : Answer :=
  let base := basePosition s
  if base.1 = .n then refuseCondition 3 s
  else if s.pc.limits.vShuttleMax < s.me.pub.vR then refuseCondition 2 s
  else acceptShift .shuttle base.1.opposite base.2 s

/-- SHUTTLE (R115). -/
def reqShuttle (_ : Request) (s : State) : Answer :=
  if !s.inRun then refuse .refusedState s
  else if s.lp.link = .restoredWait then refuse .refusedState s
  else unlessBlocked .gearbox s (judgeShuttle s)

/-- NEUTRAL (R117). -/
def reqNeutral (_ : Request) (s : State) : Answer :=
  if !s.inRun then refuse .refusedState s
  else ⟨.ok, be8 (neutralAct s).1 ++ be8 s.sc.queue.length, (neutralAct s).2⟩

def execCfgShift (f : Request) (s : State) : Result := .next (takeRequest 24 5 reqCfgShift f s)
def execShift (f : Request) (s : State) : Result := .next (takeRequest 25 3 reqShift f s)
def execShuttle (f : Request) (s : State) : Result := .next (takeRequest 26 0 reqShuttle f s)
def execNeutral (f : Request) (s : State) : Result := .next (takeRequest 27 0 reqNeutral f s)

/-- The head of the queue waits in PENDING and meets the start conditions (R118). -/
def headReady (s : State) : Bool :=
  match s.sc.queue with
  | [] => false
  | e :: _ => decide (s.sc.pub.state = .pending) && startReady e s

/-- SHIFT_START (R118, R119). DEDUCED, safe (log entry 16). -/
def execShiftStart (s : State) : Result := event (s.inRun && headReady s) (startEntry pendNext) s

/-- SUPPLY_WAIT_EXPIRY (R118). -/
def execSupplyWaitExpiry (s : State) : Result :=
  event (s.inRun && decide (s.sc.pub.state = .pending) && s.due s.sc.supplyWait) (dropHead .supply) s

/-- BRAKE_WAIT_EXPIRY (R118). -/
def execBrakeWaitExpiry (s : State) : Result :=
  event (s.inRun && decide (s.sc.pub.state = .pending) && s.due s.sc.brakeWait) (dropHead .braking) s

/-- MODULATION_UPDATE (R121), in RUN when the modulation timer has run out. -/
def execModulationUpdate (s : State) : Result := event (s.inRun && s.due s.sc.modDue) modUpdate s

/-- STEP_TIMEOUT (R127): the modulation update at which the running step has timed out. DEDUCED, safe (log entry
15). -/
def execStepTimeout (s : State) : Result := event (s.inRun && timeoutDue s) modUpdate s

/-- RECOVERY_FAILURE (R129): the modulation update at which the recovery fails. DEDUCED, safe (log entry 15). -/
def execRecoveryFailure (s : State) : Result := event (s.inRun && failureDue s) modUpdate s

/-- DUMP_TIME_EXPIRY (R130). -/
def execDumpTimeExpiry (s : State) : Result :=
  event (s.inRun && decide (s.sc.pub.state = .aborting) && s.due s.sc.dump) dumpEnds s

end Sys2Proof.Machine
end

