-- ==== Sys2Proof/Machine/FrontCmds.lean ====
section
/-! DEFINITION. The Front Drive Manager's commands: CFG_FRONT (R139), FRONT_MODE (R140) and FRONT_WAIT_EXPIRY
(R148). -/

namespace Sys2Proof.Machine

open Sys2Proof

/-- CFG_FRONT's checks (R139). -/
def frontOk (f : Request) : Bool :=
  inRange 0 20000 (f.u16 0) && inRange 0 20000 (f.u16 2) && inRange 0 20000 (f.u16 4) && inRange 0 1000 (f.u16 6)
    && inRange 0 600 (f.u16 8) && inRange 500 1500 (f.u16 10) && inRange 500 1500 (f.u16 12)
    && decide (f.u16 0 < f.u16 2) && decide (f.u16 10 < f.u16 12)

/-- CFG_FRONT (R139). -/
def reqCfgFront (f : Request) (s : State) : Answer :=
  if frontOk f then
    ⟨.ok, [], { s with fdm := { s.fdm with
      vOn := f.u16 0, vOff := f.u16 2, vCheck := f.u16 4, s4wd := f.u16 6, aTurn := f.u16 8
      leadLow := f.u16 10, leadHigh := f.u16 12 } }⟩
  else refuse .refusedRange s

/-- FRONT_MODE taken (R140). -/
def takeFrontMode (m : FrontMode) (s : State) : Answer :=
  ⟨.ok, be8 m.code ++ be8 s.fdm.state.code, { s with fdm := { s.fdm with mode := m } }⟩

/-- FRONT_MODE (R140). -/
def reqFrontMode (f : Request) (s : State) : Answer :=
  if !s.inRun then refuse .refusedState s
  else if s.lp.link = .restoredWait then refuse .refusedState s
  else match decFrontMode (f.u8 0) with
    | none => refuse .refusedRange s
    | some .on => takeFrontMode .on s
    | some m => unlessBlocked .front s (takeFrontMode m s)

def execCfgFront (f : Request) (s : State) : Result := .next (takeRequest 28 14 reqCfgFront f s)
def execFrontMode (f : Request) (s : State) : Result := .next (takeRequest 29 1 reqFrontMode f s)

/-- FRONT_WAIT_EXPIRY (R148). -/
def execFrontWaitExpiry (s : State) : Result :=
  event (s.inRun && decide (s.fdm.state = .engageWait) && s.due s.fdm.wait) fdmWaitExpiry s

end Sys2Proof.Machine
end

