-- ==== Sys2Proof/Machine/HitchCmds.lean ====
section
/-! DEFINITION. The Hitch Controller's requests: CFG_HITCH (R154), HITCH_SET (R155, R156), HITCH_MODE (R157),
HITCH_HOLD (R170) and HITCH_RELEASE (R171). -/

namespace Sys2Proof.Machine

open Sys2Proof

/-- CFG_HITCH's checks (R154). -/
def hitchOk (f : Request) (l : LimitSet) : Bool :=
  inRange 100 6000 (f.u16 0) && inRange 0 50 (f.u8 2) && inRange 1 64 (f.u8 3) && inRange 0 1000 (f.u16 4)
    && inRange 0 1000 (f.u16 6) && inRange 0 1000 (f.u16 8) && inRange 0 1000 (f.u16 10)
    && inRange 100 2000 (f.u16 12) && decide (f.u8 14 = 0) && decide (f.u16 8 ≤ l.pHitchUpperHard)

/-- The settings a CFG_HITCH body carries (R154). -/
def hitchCfgOf (f : Request) : HitchCfg :=
  { dMax := f.u16 0, db := f.u8 2, gain := f.u8 3, vMax := f.u16 4, vDrop := f.u16 6, pUp := f.u16 8
    sLim := f.u16 10, tShock := f.u16 12 }

/-- CFG_HITCH (R154). -/
def reqCfgHitch (f : Request) (s : State) : Answer :=
  if hitchOk f s.pc.limits then ⟨.ok, [], { s with hc := { s.hc with cfg := hitchCfgOf f } }⟩
  else refuse .refusedRange s

/-- The lever matches the position last taken (R156). -/
def leverMatches (h : Hitch) : Bool :=
  h.posValid && decide (((h.lever : Int) - h.pos).natAbs ≤ Config.leverWindow)

/-- The setpoints stored, as clamped (R155). -/
def storeSetpoints (f : Request) (slip : Bool) (s : State) : State :=
  { s with hc := { s.hc with
    lever := min 1000 (f.u16 0), mix := min 100 (f.u8 2), dropRate := min s.hc.cfg.vDrop (f.u16 3)
    slipLimiting := slip, leverHeld := true } }

/-- The match test of LOCKED_OUT after the setpoints (R156). -/
def matchTest (s : State) : State :=
  if s.hc.state = .lockedOut ∧ leverMatches s.hc = true then hcChangeOrHold .control s else s

/-- HITCH_SET taken (R155). -/
def takeHitchSet (f : Request) (slip : Bool) (s : State) : Answer :=
  let t := storeSetpoints f slip s
  let u := matchTest t
  let same := decide (t.hc.lever = f.u16 0 ∧ t.hc.mix = f.u8 2 ∧ t.hc.dropRate = f.u16 3)
  ⟨if same then .ok else .okClamped,
    be16 t.hc.lever ++ be8 t.hc.mix ++ be16 t.hc.dropRate ++ beBool slip
      ++ beBool (decide (s.hc.state = .lockedOut ∧ u.hc.state ≠ .lockedOut)) ++ be8 u.hc.state.code, u⟩

/-- HITCH_SET (R155). -/
def reqHitchSet (f : Request) (s : State) : Answer :=
  if !s.inRun then refuse .refusedState s
  else if s.lp.link = .restoredWait then refuse .refusedState s
  else match decBool (f.u8 5) with
    | none => refuse .refusedRange s
    | some slip => unlessBlocked .hitch s (takeHitchSet f slip s)

/-- The return state set while HELD (R157). -/
def setReturn (r : HitchState) (s : State) : State := { s with hc := { s.hc with ret := r } }

/-- HITCH_MODE HEADLAND by state (R157). -/
def modeHeadland (s : State) : State :=
  match s.hc.state with
  | .lockedOut => hcChangeOrHold .headland s
  | .control | .shock | .transport => hcChange .headland .lockedOut s
  | .held => setReturn .headland s
  | .headland | .stopped => s

/-- HITCH_MODE TRANSPORT by state (R157). Leading from LOCKED_OUT to HELD, it leaves transport-reached as it is. DESIGN CHOICE,
unsafe (log entry 39). -/
def modeTransport (s : State) : State :=
  match s.hc.state with
  | .lockedOut => hcChangeOrHold .transport s
  | .control | .shock | .headland => hcChange .transport .lockedOut s
  | .held => setReturn .transport { s with hc := { s.hc with reached := false } }
  | .transport | .stopped => s

/-- HITCH_MODE WORK by state (R157). -/
def modeWork (s : State) : State :=
  match s.hc.state with
  | .headland | .transport => hcChange .lockedOut .lockedOut s
  | .held => if s.hc.ret = .headland ∨ s.hc.ret = .transport then setReturn .lockedOut s else s
  | .lockedOut | .control | .shock | .stopped => s

/-- HITCH_MODE by mode (R157). -/
def hitchModeAct : HitchMode → State → State
  | .work => modeWork
  | .headland => modeHeadland
  | .transport => modeTransport

/-- HITCH_MODE (R157). -/
def reqHitchMode (f : Request) (s : State) : Answer :=
  if !s.inRun then refuse .refusedState s
  else if s.lp.link = .restoredWait then refuse .refusedState s
  else match decHitchMode (f.u8 0) with
    | none => refuse .refusedRange s
    | some m =>
      unlessBlocked .hitch s
        ⟨.ok, be8 (f.u8 0) ++ be8 (hitchModeAct m s).hc.state.code, hitchModeAct m s⟩

/-- HITCH_HOLD (R170). -/
def reqHitchHold (_ : Request) (s : State) : Answer :=
  if !s.inRun then refuse .refusedState s
  else
    let pending := s.hc.holdPending || !s.hc.causeRequest
    ⟨.ok, be8 s.hc.state.code ++ beBool pending, { s with hc := { s.hc with holdPending := pending } }⟩

/-- The request hold and a pending hold cleared, the return state LOCKED_OUT while HELD (R171). -/
def releaseHold (s : State) : State :=
  hcUnhold { s with hc := { s.hc with
    holdPending := false, causeRequest := false, ret := if s.hc.state = .held then .lockedOut else s.hc.ret } }

/-- HITCH_RELEASE (R171). -/
def reqHitchRelease (_ : Request) (s : State) : Answer :=
  if !s.inRun then refuse .refusedState s
  else if s.lp.link = .restoredWait then refuse .refusedState s
  else if s.hc.causeRequest = false ∧ s.hc.holdPending = false then refuse .refusedState s
  else ⟨.ok, be8 (releaseHold s).hc.state.code, releaseHold s⟩

def execCfgHitch (f : Request) (s : State) : Result := .next (takeRequest 30 15 reqCfgHitch f s)
def execHitchSet (f : Request) (s : State) : Result := .next (takeRequest 31 6 reqHitchSet f s)
def execHitchMode (f : Request) (s : State) : Result := .next (takeRequest 32 1 reqHitchMode f s)
def execHitchHold (f : Request) (s : State) : Result := .next (takeRequest 33 0 reqHitchHold f s)
def execHitchRelease (f : Request) (s : State) : Result := .next (takeRequest 34 0 reqHitchRelease f s)

end Sys2Proof.Machine
end

