-- ==== Sys2Proof/Machine/TrailerCmds.lean ====
section
/-! DEFINITION. The Trailer Brake Controller's commands: CFG_TRAILER (R179), CFG_CURVE_POINT (R180), TRAILER_MODE
(R183), TRAILER_HAND (R184), LINE_CHECK (R190) and the expiries of its timers (R186, R187, R189, R191). -/

namespace Sys2Proof.Machine

open Sys2Proof

/-- CFG_TRAILER (R179). -/
def reqCfgTrailer (f : Request) (s : State) : Answer :=
  configOnly s (inRange 1 2000 (f.u16 0) && inRange 0 300 (f.u16 2) && inRange 0 1500 (f.u16 4)) []
    { s with tbc := { s.tbc with pBrakeOn := f.u16 0, pPre := f.u16 2, pSafe := f.u16 4 } }

/-- CFG_CURVE_POINT (R180): point `n` takes the pair and every point above it is discarded. -/
def reqCfgCurvePoint (f : Request) (s : State) : Answer :=
  let n := f.u8 0
  configOnly s
    (inRange 1 8 n && decide (n ≤ s.tbc.curve.length + 1) && inRange 0 2000 (f.u16 1) && inRange 0 2000 (f.u16 3))
    (be8 n)
    { s with tbc := { s.tbc with curve := s.tbc.curve.take (n - 1) ++ [(f.u16 1, f.u16 3)] } }

/-- TRAILER_MODE taken: the mode and presence, changed or repeated (R183). -/
def takeTrailerMode (m : TrailerMode) (present : Bool) (s : State) : Answer :=
  ⟨.ok, be8 m.code ++ beBool present,
    if m = s.tbc.cur.mode ∧ present = s.tbc.cur.present then s else tbcFinish (applyMode m present s)⟩

/-- TRAILER_MODE (R183). -/
def reqTrailerMode (f : Request) (s : State) : Answer :=
  if !s.inRun then refuse .refusedState s
  else if s.lp.link = .restoredWait then refuse .refusedState s
  else match decTrailerMode (f.u8 0), decBool (f.u8 1) with
    | some m, some present =>
      if m = .park ∧ s.tbc.cur.mode ≠ .park ∧ s.me.pub.standstill = false then refuseCondition 1 s
      else takeTrailerMode m present s
    | _, _ => refuse .refusedRange s

/-- TRAILER_HAND (R184). -/
def reqTrailerHand (f : Request) (s : State) : Answer :=
  if !s.inRun then refuse .refusedState s
  else
    let hand := min 1000 (f.u16 0)
    ⟨if f.u16 0 ≤ 1000 then .ok else .okClamped, be16 hand, tbcFinish (modBrake (fun b => { b with hand := hand }) s)⟩

/-- A line check starts (R190). -/
def startCheck (s : State) : State :=
  tbcFinish (tbcSuppEnter { s with tbc := { s.tbc with
    stage := some (s.time + Config.stage1Time), cur := { s.tbc.cur with check := .stage1 } } })

/-- Checks 5 to 8 of LINE_CHECK, then its start (R190). -/
def judgeLineCheck (s : State) : Answer :=
  if s.tbc.cur.present = false then refuseCondition 2 s
  else if s.tbc.cur.mode = .road then refuseCondition 3 s
  else if s.me.pub.standstill = false then refuseCondition 1 s
  else if s.vo.supply = .low then refuseCondition 4 s
  else ⟨.ok, be8 CheckState.stage1.code, startCheck s⟩

/-- LINE_CHECK (R190). -/
def reqLineCheck (_ : Request) (s : State) : Answer :=
  if !s.inRun then refuse .refusedState s
  else if s.lp.link = .restoredWait then refuse .refusedState s
  else if s.tbc.cur.checking then refuse .refusedState s
  else unlessBlocked .trailer s (judgeLineCheck s)

def execCfgTrailer (f : Request) (s : State) : Result := .next (takeRequest 35 6 reqCfgTrailer f s)
def execCfgCurvePoint (f : Request) (s : State) : Result := .next (takeRequest 36 5 reqCfgCurvePoint f s)
def execTrailerMode (f : Request) (s : State) : Result := .next (takeRequest 37 2 reqTrailerMode f s)
def execTrailerHand (f : Request) (s : State) : Result := .next (takeRequest 38 2 reqTrailerHand f s)
def execLineCheck (f : Request) (s : State) : Result := .next (takeRequest 39 0 reqLineCheck f s)

/-- CHARGE_WINDOW_EXPIRY (R186). -/
def execChargeWindowExpiry (s : State) : Result := event (s.inRun && s.due s.tbc.charge) tbcChargeExpiry s

/-- The TBC's own low hold timer has expired: the snapshot is stale and the low test is made (R187). -/
def lowExpired (s : State) : Bool :=
  s.isStale && s.tbc.cur.lowTested && s.heldFor s.tbc.lowHold Config.lowHoldTime

/-- TRL_SUPP_LOW_HOLD_EXPIRY (R187). -/
def execTrlSuppLowHoldExpiry (s : State) : Result :=
  event (s.inRun && lowExpired s) (fun s => tbcFinish (lowReport s)) s

/-- LINE_CHECK_STAGE_EXPIRY (R191). -/
def execLineCheckStageExpiry (s : State) : Result := event (s.inRun && s.due s.tbc.stage) tbcStageExpiry s

/-- PRE_BRAKE_RUN_OUT_EXPIRY (R189). -/
def execPreBrakeRunOutExpiry (s : State) : Result := event (s.inRun && s.due s.tbc.runOut) tbcRunOutExpiry s

end Sys2Proof.Machine
end

