-- ==== Sys2Proof/Machine/FaultCmds.lean ====
section
/-! DEFINITION. The Fault Table's request: CLEAR_FAULT (R201, R202). -/

namespace Sys2Proof.Machine

open Sys2Proof

/-- What a CLEAR_FAULT selects (R201). -/
inductive Selector where
  | identity (i : Fin 47)
  | class (c : FaultClass)
  | all
deriving DecidableEq, Repr

/-- A class code a CLEAR_FAULT carries (R201). -/
def decClass : Nat → Option FaultClass
  | 0 => some .gearbox | 1 => some .hitch | 2 => some .front | 3 => some .trailer | _ => none

/-- The selector of a CLEAR_FAULT body, absent where it is out of range (R201). -/
def selectorOf (f : Request) : Option Selector :=
  match f.u8 0 with
  | 0 => if h : f.u8 1 < 47 then some (.identity ⟨f.u8 1, h⟩) else none
  | 1 => (decClass (f.u8 1)).map Selector.class
  | 2 => some .all
  | _ => none

/-- An entry is selected (R201). -/
def Selector.picks (sel : Selector) (i : Fin 47) : Bool :=
  match sel with
  | .identity j => decide (i = j)
  | .class c => decide (faultClass i = c ∨ i = fScanStale)
  | .all => true

/-- A LATCHED entry cleared, with what the FT then tells (R202). -/
def clearEntry (i : Fin 47) (s : State) : State :=
  let s := ftZero i s
  match faultChannel i with
  | some c => releaseChannel c s
  | none => ftTell i s

/-- One entry taken by CLEAR_FAULT, with the number cleared so far (R201). -/
def clearStep (sel : Selector) (acc : Nat × State) (i : Fin 47) : Nat × State :=
  if sel.picks i && decide ((acc.2.ft[i]).state = .latched) then (acc.1 + 1, clearEntry i acc.2) else acc

/-- The selected entries taken in ascending identity number (R201). -/
def clearSelected (sel : Selector) (s : State) : Nat × State := (List.finRange 47).foldl (clearStep sel) (0, s)

/-- How many selected entries are ACTIVE (R201). -/
def activeSelected (sel : Selector) (s : State) : Nat :=
  (List.finRange 47).countP fun i => sel.picks i && decide ((s.ft[i]).state = .active)

/-- CLEAR_FAULT (R201). -/
def reqClearFault (f : Request) (s : State) : Answer :=
  match selectorOf f with
  | none => refuse .refusedRange s
  | some sel =>
    let r := clearSelected sel s
    ⟨.ok, be8 r.1 ++ be8 (activeSelected sel r.2), r.2⟩

def execClearFault (f : Request) (s : State) : Result := .next (takeRequest 40 2 reqClearFault f s)

end Sys2Proof.Machine
end

