-- ==== Sys2Proof/Machine/FrameCmds.lean ====
section
/-! DEFINITION. The frame commands that name no request: TORN_FRAME (R5), CRC_FAILURE (R6) and UNKNOWN_REQUEST (R7),
with the request catalogue (R14). A term whose bits are another kind of frame than its row says is taken as the
frame its bits are, so each of the three has its meaning on every term. -/

namespace Sys2Proof.Machine

open Sys2Proof

/-- The fixed body size and the owner's handler of each kind of the catalogue (R8, R14). -/
def catalogue (kind : Byte) : Option (Nat × (Request → State → Answer)) :=
  match kind.toNat with
  | 1 => some (0, reqPoll)
  | 2 => some (0, reqStatus)
  | 3 => some (2, reqRead)
  | 4 => some (0, reqFetchNotice)
  | 5 => some (1, reqSetNoticeLevel)
  | 6 => some (4, reqCfgLink)
  | 7 => some (0, reqResume)
  | 8 => some (0, reqRestart)
  | 9 => some (0, reqStart)
  | 10 => some (12, reqCfgLimits)
  | 11 => some (0, reqLockLimits)
  | 12 => some (6, reqCfgScanStep)
  | 13 => some (5, reqCfgRole)
  | 14 => some (14, reqCfgDraft)
  | 15 => some (5, reqCfgSpeedInput)
  | 16 => some (0, reqScanStart)
  | 17 => some (0, reqScanStop)
  | 18 => some (6, reqEngineInfo)
  | 19 => some (7, reqCfgOutput)
  | 20 => some (4, reqCfgSupply)
  | 21 => some (7, reqCfgGear)
  | 22 => some (15, reqCfgProfileStep)
  | 23 => some (2, reqCfgProfileMap)
  | 24 => some (5, reqCfgShift)
  | 25 => some (3, reqShift)
  | 26 => some (0, reqShuttle)
  | 27 => some (0, reqNeutral)
  | 28 => some (14, reqCfgFront)
  | 29 => some (1, reqFrontMode)
  | 30 => some (15, reqCfgHitch)
  | 31 => some (6, reqHitchSet)
  | 32 => some (1, reqHitchMode)
  | 33 => some (0, reqHitchHold)
  | 34 => some (0, reqHitchRelease)
  | 35 => some (6, reqCfgTrailer)
  | 36 => some (5, reqCfgCurvePoint)
  | 37 => some (2, reqTrailerMode)
  | 38 => some (2, reqTrailerHand)
  | 39 => some (0, reqLineCheck)
  | 40 => some (2, reqClearFault)
  | _ => none

/-- A valid frame of any kind (R7). -/
def takeValid (kind : Byte) (f : Request) (s : State) : State :=
  match catalogue kind with
  | some (size, handler) => takeRequest kind size handler f s
  | none => takeUnknown kind f s

/-- A frame of 256 bits with a received CRC (R6, R7). -/
def takeWhole (kind : Byte) (f : Request) (crc : Word16) (s : State) : State :=
  if crc = crc16 (frameHead kind f) then takeValid kind f s else takeBadCrc kind f crc s

/-- A frame of any number of bits (R5). -/
def takeBits (bits : List Bool) (s : State) : State :=
  if bits.length = Config.frameBits then
    let bs := bitsBytes 32 bits
    takeWhole (bs.getD 0 0#8) (requestOf bs)
      (BitVec.ofNat 16 (256 * (bs.getD 30 0#8).toNat + (bs.getD 31 0#8).toNat)) s
  else clockFrame bits s

/-- TORN_FRAME (R5). -/
def execTornFrame (bits : List Bool) (s : State) : Result := .next (takeBits bits s)

/-- CRC_FAILURE (R6). -/
def execCrcFailure (kind : Byte) (f : Request) (crc : Word16) (s : State) : Result := .next (takeWhole kind f crc s)

/-- UNKNOWN_REQUEST (R7). -/
def execUnknownRequest (kind : Byte) (f : Request) (s : State) : Result := .next (takeValid kind f s)

end Sys2Proof.Machine
end

