-- ==== Sys2Proof/Machine/Dispatch.lean ====
section
/-! DEFINITION. One arm per constructor of Instr: the command's meaning, called directly. -/

namespace Sys2Proof.Machine

open Sys2Proof

def exec (i : Instr) (s : State) : Host.Outcome State Fault Refusal :=
  match i with
  | .powerOn => Sys2Proof.Machine.execPowerOn s
  | .tornFrame bits => Sys2Proof.Machine.execTornFrame bits s
  | .crcFailure kind f crc => Sys2Proof.Machine.execCrcFailure kind f crc s
  | .unknownRequest kind f => Sys2Proof.Machine.execUnknownRequest kind f s
  | .poll f => Sys2Proof.Machine.execPoll f s
  | .status f => Sys2Proof.Machine.execStatus f s
  | .read f => Sys2Proof.Machine.execRead f s
  | .fetchNotice f => Sys2Proof.Machine.execFetchNotice f s
  | .setNoticeLevel f => Sys2Proof.Machine.execSetNoticeLevel f s
  | .cfgLink f => Sys2Proof.Machine.execCfgLink f s
  | .resume f => Sys2Proof.Machine.execResume f s
  | .restart f => Sys2Proof.Machine.execRestart f s
  | .start f => Sys2Proof.Machine.execStart f s
  | .cfgLimits f => Sys2Proof.Machine.execCfgLimits f s
  | .lockLimits f => Sys2Proof.Machine.execLockLimits f s
  | .cfgScanStep f => Sys2Proof.Machine.execCfgScanStep f s
  | .cfgRole f => Sys2Proof.Machine.execCfgRole f s
  | .cfgDraft f => Sys2Proof.Machine.execCfgDraft f s
  | .cfgSpeedInput f => Sys2Proof.Machine.execCfgSpeedInput f s
  | .scanStart f => Sys2Proof.Machine.execScanStart f s
  | .scanStop f => Sys2Proof.Machine.execScanStop f s
  | .engineInfo f => Sys2Proof.Machine.execEngineInfo f s
  | .cfgOutput f => Sys2Proof.Machine.execCfgOutput f s
  | .cfgSupply f => Sys2Proof.Machine.execCfgSupply f s
  | .cfgGear f => Sys2Proof.Machine.execCfgGear f s
  | .cfgProfileStepWrite f => Sys2Proof.Machine.execCfgProfileStepWrite f s
  | .cfgProfileStepTruncate f => Sys2Proof.Machine.execCfgProfileStepTruncate f s
  | .cfgProfileMap f => Sys2Proof.Machine.execCfgProfileMap f s
  | .cfgShift f => Sys2Proof.Machine.execCfgShift f s
  | .shift f => Sys2Proof.Machine.execShift f s
  | .shuttle f => Sys2Proof.Machine.execShuttle f s
  | .neutral f => Sys2Proof.Machine.execNeutral f s
  | .cfgFront f => Sys2Proof.Machine.execCfgFront f s
  | .frontMode f => Sys2Proof.Machine.execFrontMode f s
  | .cfgHitch f => Sys2Proof.Machine.execCfgHitch f s
  | .hitchSet f => Sys2Proof.Machine.execHitchSet f s
  | .hitchMode f => Sys2Proof.Machine.execHitchMode f s
  | .hitchHold f => Sys2Proof.Machine.execHitchHold f s
  | .hitchRelease f => Sys2Proof.Machine.execHitchRelease f s
  | .cfgTrailer f => Sys2Proof.Machine.execCfgTrailer f s
  | .cfgCurvePoint f => Sys2Proof.Machine.execCfgCurvePoint f s
  | .trailerMode f => Sys2Proof.Machine.execTrailerMode f s
  | .trailerHand f => Sys2Proof.Machine.execTrailerHand f s
  | .lineCheck f => Sys2Proof.Machine.execLineCheck f s
  | .clearFault f => Sys2Proof.Machine.execClearFault f s
  | .supervisionExpiry => Sys2Proof.Machine.execSupervisionExpiry s
  | .conversionStart => Sys2Proof.Machine.execConversionStart s
  | .conversionEnd left right => Sys2Proof.Machine.execConversionEnd left right s
  | .fastSample left right => Sys2Proof.Machine.execFastSample left right s
  | .shockTimerExpiry => Sys2Proof.Machine.execShockTimerExpiry s
  | .scanStepDelayEnd => Sys2Proof.Machine.execScanStepDelayEnd s
  | .scanStepConversionEnd raw => Sys2Proof.Machine.execScanStepConversionEnd raw s
  | .scanConversionTimeout => Sys2Proof.Machine.execScanConversionTimeout s
  | .scanStaleExpiry => Sys2Proof.Machine.execScanStaleExpiry s
  | .supplyQualificationExpiry => Sys2Proof.Machine.execSupplyQualificationExpiry s
  | .pulseEdge inp => Sys2Proof.Machine.execPulseEdge inp s
  | .pulseGapExpiry inp => Sys2Proof.Machine.execPulseGapExpiry inp s
  | .motionUpdate => Sys2Proof.Machine.execMotionUpdate s
  | .engineInfoStaleExpiry => Sys2Proof.Machine.execEngineInfoStaleExpiry s
  | .diagnosticSample ch current off => Sys2Proof.Machine.execDiagnosticSample ch current off s
  | .overcurrentTrip ch current => Sys2Proof.Machine.execOvercurrentTrip ch current s
  | .shiftStart => Sys2Proof.Machine.execShiftStart s
  | .supplyWaitExpiry => Sys2Proof.Machine.execSupplyWaitExpiry s
  | .brakeWaitExpiry => Sys2Proof.Machine.execBrakeWaitExpiry s
  | .modulationUpdate => Sys2Proof.Machine.execModulationUpdate s
  | .stepTimeout => Sys2Proof.Machine.execStepTimeout s
  | .recoveryFailure => Sys2Proof.Machine.execRecoveryFailure s
  | .dumpTimeExpiry => Sys2Proof.Machine.execDumpTimeExpiry s
  | .frontWaitExpiry => Sys2Proof.Machine.execFrontWaitExpiry s
  | .chargeWindowExpiry => Sys2Proof.Machine.execChargeWindowExpiry s
  | .trlSuppLowHoldExpiry => Sys2Proof.Machine.execTrlSuppLowHoldExpiry s
  | .lineCheckStageExpiry => Sys2Proof.Machine.execLineCheckStageExpiry s
  | .preBrakeRunOutExpiry => Sys2Proof.Machine.execPreBrakeRunOutExpiry s

end Sys2Proof.Machine
end

