-- ==== Sys2Proof/Safety.lean ====
section
/-! DEFINITION. The terms the statements use: what a command leaves of the Link Port and what it answers, which rows
are request frames, and what holds of every state a step leaves (the manual's rules about the whole part). -/

namespace Sys2Proof.Machine

open Sys2Proof

/-! ### What a request frame leaves -/

/-- Everything in the LP that the taking of a frame and its reply do not write (R3, R7): all but the frame buffer,
data out, the supervision timer, the reply slot and the notices-lost flag, which a frame can only clear (R19). -/
def SameLp (a b : LinkPort) : Prop :=
  b = { a with frame := b.frame, bitCount := b.bitCount, dataOut := b.dataOut, lost := b.lost
               supervision := b.supervision, slot := b.slot } ∧ (b.lost = true → a.lost = true)

/-- The notices-lost flag after the delivery test that every frame of 256 bits makes first: it is cleared where the slot holds
an OK reply to STATUS whose eighth body byte carried the flag, and no notice was lost since that reply was formed (R12, R19). -/
def lostAfter (lp : LinkPort) : Bool :=
  lp.lost && !(decide (lp.slot.kind = 2 ∧ lp.slot.status = 0 ∧ lp.slot.body.getD 7 0 = 1) && !lp.lostMarker)

/-- What a frame of the 256 bits `bits` leaves in the frame buffer, its bit count and data out: its own bits, and the whole
reply that stood in the slot (R3). -/
def Clocked (bits : List Bool) (a b : LinkPort) : Prop :=
  b.frame = bits ∧ b.bitCount = 256 ∧ b.dataOut = (bytesBits a.slot.bytes).take 256

/-- The reply slot of `t` holds the reply to the request of kind `kind` and tag `tag`, with the part summary of `t`
itself (R7 step 5, R10). -/
def Answered (t : State) (kind tag : Byte) (status : Status) (body : List Byte) : Prop :=
  t.lp.slot = mkReply kind tag status.code (partSummary t) body

/-- `t` is `u` but for what a frame writes in the LP, and its reply slot answers the request (R7). -/
def Replied (kind : Byte) (f : Request) (status : Status) (body : List Byte) (u t : State) : Prop :=
  t = { u with lp := t.lp } ∧ SameLp u.lp t.lp ∧ Answered t kind f.tag status body

/-- The part is between events with a frame to come that restores nothing: no publication undelivered, and the link
not LOST or the part in CONFIG. -/
abbrev Ready (s : State) : Prop := s.undelivered = 0 ∧ (s.inRun = false ∨ s.lp.link ≠ .lost)

/-- In CONFIG, between events. -/
abbrev InConfig (s : State) : Prop := s.undelivered = 0 ∧ s.inRun = false

/-- In RUN with the link UP, between events: no link check refuses a request. -/
abbrev InRunUp (s : State) : Prop := s.undelivered = 0 ∧ s.inRun = true ∧ s.lp.link = .up

/-- The command `c` answers a next state: `u`, but for what a frame writes in the LP, with the reply to the request in
the slot, and with the notices-lost flag as the delivery test of the frame leaves it (R7, R19). -/
def Answers (c : Instr) (s : State) (kind : Byte) (f : Request) (status : Status) (body : List Byte) (u : State) :
    Prop :=
  ∃ t, exec c s = .next t ∧ Replied kind f status body u t ∧ t.lp.lost = lostAfter u.lp

/-- Whatever happens at the SC, the FDM, the VO and the TBC: part time, the waiting commands, the PC, the MU and the ME
are as they were. -/
def KeepsMeasures (s t : State) : Prop :=
  t.time = s.time ∧ t.pending = s.pending ∧ t.pc = s.pc ∧ t.mu = s.mu ∧ t.me = s.me

/-- The codes of the clutches that ON_A, OFF_A, ON_B and OFF_B name in a shift of a kind from (d, g) to (d', g'), S1..S4, L, M,
H, F and R being 0..8; a pair whose two clutches are the same names none (R98). -/
def roleCodes (gs : Vector GearEntry 12) (k : ShiftKind) (d : Dir) (g : Nat) (d' : Dir) (g' : Nat) : List (Option Nat) :=
  let speed (h : Nat) : Nat := (gearAt gs h).speed
  let range (h : Nat) : Nat := 4 + (gearAt gs h).range
  let drive (e : Dir) : Option Nat := if e = .f then some 7 else if e = .r then some 8 else none
  let pair (on off : Nat) : List (Option Nat) := if on = off then [none, none] else [some on, some off]
  match k with
  | .speed => pair (speed g') (speed g) ++ [none, none]
  | .range => pair (range g') (range g) ++ pair (speed g') (speed g)
  | .shuttle => [drive d', drive d, none, none]
  | .engage => [drive d', none, none, none]
  | .disengage => [none, drive d, none, none]
  | .none => [none, none, none, none]

/-- The time a step takes as it is entered: in a FILL step extended by 1 percent for each degree under 40, by 60 percent at
most (R124). -/
def stepTime (s : State) (st : ProfileStep) : Nat :=
  let oil : Int := if s.me.engine.stale then 20 else s.me.engine.oil
  if st.label = .fill then min (st.duration * (1000 + 10 * (40 - oil).toNat) / 1000) (st.duration * 1600 / 1000)
  else st.duration

/-- A FILLED step, its ON_A clutch of code `onA`, is not met: where the sensed pressure is tested, it lies under
P_fill_detect (R125). -/
abbrev FillOpen (s : State) (onA : Option Nat) (st : ProfileStep) : Prop :=
  st.endCond = .filled → ∀ c : Fin 9, onA = some c.val → s.roleOk (clutchRole c) = true →
    (s.mu.snapshot.entries[clutchRole c]).value < s.sc.pFillDetect

/-- The command of clutch `c` in the step `st` of `run`, `el` microseconds after the step's entry: its role's action, its end
pressure load-compensated in TORQUE and INERTIA and cut at 250, or without a role its entry pressure (R99, R122, R123). -/
def stepCommand (s : State) (run : ShiftRun) (st : ProfileStep) (el : Nat) (c : Fin 9) : Nat :=
  let total := run.applied * 1000
  let p0 := run.entryP[c]
  let target (q : Nat) := if st.label = .torque ∨ st.label = .inertia then
    min 250 (q * (1000 + s.sc.kLoad * loadOf s / 1000) / 1000) else q
  let of (a : Action) : Nat :=
    match a with
    | ⟨.hold, _⟩ => min 250 p0
    | ⟨.step, q⟩ => min 250 (target q)
    | ⟨.ramp, q⟩ => min 250 (if total ≤ el then target q
        else ((p0 : Int) + (((target q : Int) - p0) * el).tdiv total).toNat)
    | ⟨.fill, q⟩ => min 250 q
    | ⟨.dump, _⟩ => 0
  if run.onA = some c then of st.onA else if run.offA = some c then of st.offA
  else if run.onB = some c then of st.onB else if run.offB = some c then of st.offB else p0

/-- The profile `p` of a shift of a kind and a sense from the position of `s` to (d', g') begins with the step `st`,
whatever its end condition, and that step is not met at its entry, so that the shift is still in it at the end of the event
that starts it (R100, R103, R125). -/
abbrev FirstStepRuns (s : State) (k : ShiftKind) (u : Sense) (d' : Dir) (g' : Nat) (p : Fin 8) (st : ProfileStep) : Prop :=
  s.sc.map[mapIndex k u] = some p ∧ (s.sc.profiles[p]).head? = some st ∧ 0 < st.duration
    ∧ FillOpen s ((roleCodes s.sc.gears k s.sc.pub.dir s.sc.pub.gear d' g').head?.join) st

/-- In `t` a shift of a kind and a sense from the position of `s` to (d', g') has begun at the time of `s`, in the step `st` of
its profile `p`: the driveline record; the shift with its four roles as R98 binds them, its applied duration, its entry
pressures, which for an ENGAGE and a SHUTTLE are those that step 0 sets, and the sync count of its first update; the nine
commands of that update; and the next update 5 ms later (R98, R99, R110, R120, R121, R124). -/
abbrev ShiftBegins (s : State) (k : ShiftKind) (u : Sense) (d' : Dir) (g' : Nat) (p : Fin 8) (st : ProfileStep) (t : State) : Prop :=
  let gs := s.sc.gears
  let d := s.sc.pub
  let uses (h : Nat) (c : Fin 9) : Prop := c.val = (gearAt gs h).speed.val ∨ c.val = 4 + (gearAt gs h).range.val
  let joins (c : Fin 9) : Prop := uses g' c ∧ (k = .engage ∨ (k = .shuttle ∧ ¬uses d.gear c))
  let leaves (c : Fin 9) : Prop := k = .shuttle ∧ uses d.gear c ∧ ¬uses g' c
  let start (c : Fin 9) : Nat := if joins c then (gearAt gs g').pLock else if leaves c then 0
    else (s.vo.chan[clutchChan c]).command
  let agrees := ((s.me.pub.nIn : Int) - (s.me.pub.nOut * (gearAt gs g').ratio / 1000 : Nat)).natAbs ≤ s.sc.wSync
  t.sc.pub.state = .stepping ∧ t.sc.pub.kind = k ∧ t.sc.pub.sense = u ∧ t.sc.pub.phase = st.label ∧ t.sc.pub.step = 0
    ∧ t.sc.pub.tgtDir = d' ∧ t.sc.pub.tgtGear = g' ∧ t.sc.pub.dir = d.dir ∧ t.sc.pub.gear = d.gear
    ∧ t.sc.modDue = some (s.time + 5000)
    ∧ match t.sc.shift with
      | none => False
      | some run =>
        [run.onA, run.offA, run.onB, run.offB].map (Option.map Fin.val) = roleCodes gs k d.dir d.gear d' g'
          ∧ run = ⟨d.dir, d.gear, d', g', some p, run.onA, run.offA, run.onB, run.offB, 0, s.time, stepTime s st,
              .ofFn start, if st.endCond = .synced ∧ agrees then 1 else 0⟩
          ∧ ∀ c : Fin 9, (t.vo.chan[clutchChan c]).command = min 250 (stepCommand s run st 0 c)

/-- The brake record stands: it is published as the TBC holds it, its command is the one its inputs give, and no
pre-brake is active, so that the SC becoming IDLE changes nothing at the TBC (R177, R182, R189). -/
abbrev BrakeQuiet (s : State) : Prop :=
  s.tbc.cur = s.tbc.pub ∧ s.tbc.cur.preBrake ≠ .active
    ∧ controlCommand s.pc.limits.pTrlMax s.tbc = s.tbc.cur.pCmd

/-- The notices `ns` offered to the queue in their order (R17, R20). -/
def offerAll (ns : List Notice) (lp : LinkPort) : LinkPort := ns.foldl (fun lp n => offerNotice n lp) lp

/-- The notice that a block of `s` posts (R15, R16). -/
abbrev noticeOf (s : State) (k : NoticeKind) (lvl : Nat) (b : Block) (v1 v2 : Nat) : Notice :=
  ⟨k, lvl, b, s.time, BitVec.ofNat 16 v1, BitVec.ofNat 16 v2⟩

/-- The notice of a start report of entry `i`, none where the entry is ACTIVE already (R197). -/
def raisedNote (s : State) (i : Fin 47) (v2 : Nat) : List Notice :=
  if (s.ft[i]).state = .active then [] else [noticeOf s .faultRaised (faultLevel i) .ft i.val v2]

/-- The notice of an end report of entry `i`, none where the entry is not ACTIVE (R198). -/
def endedNote (s : State) (i : Fin 47) : List Notice :=
  if (s.ft[i]).state = .active then [noticeOf s .faultEnded 0 .ft i.val (s.ft[i]).count] else []

/-- The notice of the end of the timeout entry in hand, if there is one (R127 to R130). -/
def timeoutNote (s : State) : List Notice :=
  match s.sc.timeoutFault with
  | some i => endedNote s i
  | none => []

/-- The event that leads from `s` to `t` posts the notices `ns`, in that order, and changes no more than the fault table, the
SC, the channels and the TBC, before the brake record publications made in it are delivered. -/
def Posts (ns : List Notice) (s t : State) : Prop :=
  ∃ p, t = settle p ∧ p = { s with
    lp := offerAll ns s.lp, ft := p.ft, sc := p.sc, vo := p.vo, tbc := p.tbc, undelivered := p.undelivered }

/-- The driveline record qualifies for pre-brake (R189). -/
abbrev Qualifies (b : BrakeRecord) (d : Driveline) : Prop :=
  b.mode = .road ∧ b.present = true ∧ d.state = .stepping
    ∧ (d.kind = .shuttle ∨ ((d.kind = .speed ∨ d.kind = .range) ∧ d.sense = .down ∧ d.phase = .inertia))

/-- The control-line command that the inputs of a TBC give in the pre-brake state `pre` (R182). -/
def commandOf (top : Nat) (tb : TrailerBrake) (pre : PreBrake) : Nat :=
  let b := tb.cur
  if b.mode = .park ∧ b.check = .idle then top else
    min top (max (brakeCurve tb.curve b.pPedal) (max (b.hand * top / 1000) (max (if pre = .off then 0 else tb.pPre)
      (max (if b.check = .idle then 0 else 1000) (if b.policyOn then tb.pSafe else 0)))))

/-- Pre-brake in `t` is what a publication of the driveline record `t` shows makes of it in `s`: ACTIVE where the record
qualifies, RUN_OUT with its timer where it no longer does, and its term is in P_cmd, on the control line and in the brake
record published (R182, R189). -/
def PreBrakeFollows (s t : State) : Prop :=
  let b := s.tbc.cur
  let on := Qualifies b t.sc.pub
  let pre : PreBrake := if on then .active else if b.preBrake = .active then .runOut else b.preBrake
  t.tbc.pub.preBrake = pre
    ∧ t.tbc.runOut = (if on then none else if b.preBrake = .active then some (s.time + 300000) else s.tbc.runOut)
    ∧ t.tbc.pub.pCmd = commandOf s.pc.limits.pTrlMax s.tbc pre
    ∧ (t.vo.chan[chCtrl]).command = min t.tbc.pub.pCmd 2000

/-- An event of the SC that publishes the driveline record: pre-brake follows it, the notices `ns` are posted, and where the
brake record stays as it was, and none of its publications was still to be delivered, they are all that is posted. -/
def ShiftEvent (ns : List Notice) (s t : State) : Prop :=
  PreBrakeFollows s t ∧ Posts ns s t
    ∧ (s.undelivered = 0 → BrakeQuiet s → ¬Qualifies s.tbc.cur t.sc.pub → t.lp = offerAll ns s.lp)

/-- The timeout entry that a recovery or an abort in hand will end is one of the two that a step's timeout raises (R127). -/
abbrev KnownTimeout (s : State) : Prop := ∀ i, s.sc.timeoutFault = some i → i = fFillTimeout ∨ i = fSyncTimeout

/-- The head still has a cause to wait in PENDING: the supply is LOW, or it is an upshift of the locked position and the brake
record shows BRAKING. With no head waiting this says nothing (R118). -/
abbrev HeadWaits (s : State) : Prop :=
  s.sc.pub.state = .pending → ∀ e rest, s.sc.queue = e :: rest → s.vo.supply = .low
    ∨ (e.dir = s.sc.pub.dir ∧ s.sc.pub.gear < e.gear ∧ s.tbc.cur.braking = true ∧ s.tbc.pub.braking = true)

/-- The TBC has taken driveline record publications that left pre-brake and P_cmd as `p` shows them: nothing of the brake
record changes but those two, a changed record is published and is one publication more to deliver, and a changed P_cmd
discards the deviation hold time (R177, R178, R182, R188). -/
def BrakeFollows (s p : State) : Prop :=
  let after : BrakeRecord := { s.tbc.cur with preBrake := p.tbc.pub.preBrake, pCmd := p.tbc.pub.pCmd }
  let changed := { after with time := s.tbc.pub.time } ≠ s.tbc.pub
  p.undelivered = (if changed then s.undelivered + 1 else s.undelivered)
    ∧ p.tbc = { s.tbc with
        cur := if changed then { after with time := s.time } else after
        pub := if changed then { after with time := s.time } else s.tbc.pub
        runOut := p.tbc.runOut
        devHold := if p.tbc.pub.pCmd = s.tbc.cur.pCmd then s.tbc.devHold else none }

/-- `p` is `s` with the SC having become IDLE in the position (d, g) and the head `e` of the queue, the entries `rest`
behind it, having entered PENDING at the same event: no shift and no modulation is left, pre-brake follows the record, and the
wait timers of `e` run from now where their causes stand. Of the SC only the record, the queue, these timers, the dump time and
the timeout entry in hand can differ; of the channels only the clutches and the trailer lines. The publications of the brake
record still to be delivered are counted, so that what SHIFT_START then does at `p` is whole (R110, R116, R118, R178, R189). -/
def HeadPends (e : ShiftEntry) (rest : List ShiftEntry) (d : Dir) (g : Nat) (s p : State) : Prop :=
  p.sc = { s.sc with
      queue := e :: rest, shift := none, modDue := none, dump := p.sc.dump, timeoutFault := p.sc.timeoutFault
      pub := { time := s.time, dir := d, gear := g, state := .pending, kind := .none, sense := .none, phase := .none
               step := 0, tgtDir := e.dir, tgtGear := e.gear, above := p.sc.pub.above }
      supplyWait := if s.vo.supply = .low then some (s.time + 1000000) else none
      brakeWait := if e.dir = d ∧ g < e.gear ∧ p.tbc.pub.braking = true then some (s.time + 3000000) else none }
    ∧ (s.tbc.cur = s.tbc.pub → p.tbc.cur = p.tbc.pub ∧ p.tbc.pub.braking = s.tbc.pub.braking)
    ∧ p.vo = { s.vo with chan := p.vo.chan } ∧ (∀ i : Fin 14, 9 ≤ i.val → i.val ≤ 11 → p.vo.chan[i] = s.vo.chan[i])
    ∧ p.hc = s.hc ∧ p.fdm = s.fdm ∧ PreBrakeFollows s p ∧ BrakeFollows s p ∧ KeepsMeasures s p

/-- The notices that the SC posts as it computes the gear window of the brake record `b`, capped by a trailer entry that
stands or not: WINDOW_CHANGED where G_high or the reverse cap changes, and then ABOVE_WINDOW where the flag turns true (R105,
R106, R107, R109). -/
def windowNotes (s : State) (b : BrakeRecord) (capped : Bool) : List Notice :=
  let l := s.pc.limits
  let gear := if b.mode ≠ .road then l.gMaxField
    else if b.present = true ∧ b.verified = false then l.gMaxUnverified else l.gMaxRoad
  let high := if capped then min gear l.gMaxUnverified else gear
  let d := s.sc.pub
  (if high ≠ s.sc.window.gHigh ∨ l.rMax ≠ s.sc.window.reverseCap then
      [noticeOf s .windowChanged 1 .sc high l.rMax] else [])
    ++ (if d.dir = .f ∧ high < d.gear ∧ d.above = false then [noticeOf s .aboveWindow 2 .sc d.gear high] else [])

/-- The supplementary line as the end of a line check leaves that of `b`: vented in PARK and without a trailer; elsewhere a
vented one CHARGED where TRL_SUPP is valid and at or above 300, and else CHARGING, and one not vented as it was (R185, R193). -/
def suppAfterCheck (b : BrakeRecord) : SuppState :=
  if b.mode = .park ∨ b.present = false then .vented
  else if b.supp = .vented then (if b.suppValid = true ∧ 300 ≤ b.suppP then .charged else .charging)
  else b.supp

/-- The brake record as an abort of a running line check leaves `b`, and `b` itself where none runs (R192, R193). -/
def checkAborted (b : BrakeRecord) : BrakeRecord :=
  if b.check = .idle then b else { b with check := .idle, outcome := .aborted, supp := suppAfterCheck b }

/-- At the end of an event of the TBC the brake record published in `t` is `after`, but for its time, pre-brake and P_cmd:
P_cmd is the greatest of the terms that `after` gives, P_trl_max in PARK while no check runs, with the pre-brake state shown; a
P_cmd that differs from that of `after` leaves no deviation hold time; the control line carries P_cmd and the supplementary
line is vented in VENTED and fed else; the time is that of the event where the record has changed. Pre-brake stays OFF outside
ROAD (R177, R178, R182, R185, R188, R189). -/
def BrakeStands (after : BrakeRecord) (s t : State) : Prop :=
  let shown := t.tbc.pub
  shown = { after with
      time := shown.time, preBrake := shown.preBrake
      pCmd := commandOf s.pc.limits.pTrlMax { s.tbc with cur := after } shown.preBrake }
    ∧ (shown.pCmd ≠ after.pCmd → t.tbc.devHold = none)
    ∧ (t.vo.chan[chCtrl]).command = min shown.pCmd 2000
    ∧ (t.vo.chan[chSupp]).command = (if after.supp = .vented then 0 else 1)
    ∧ (shown ≠ s.tbc.pub → shown.time = s.time)
    ∧ (after.mode ≠ .road → after.preBrake = .off → shown.preBrake = .off)

/-- The brake record stands as `after`, and pre-brake, where it agreed with the driveline record and no PENDING head starts, as
it was (R189). -/
def BrakeShows (after : BrakeRecord) (s t : State) : Prop :=
  BrakeStands after s t
    ∧ ((after.preBrake = .active ↔ Qualifies after s.sc.pub) →
        (s.sc.pub.state = .pending → ∀ e rest, s.sc.queue = e :: rest → s.vo.supply = .low
          ∨ (e.dir = s.sc.pub.dir ∧ s.sc.pub.gear < e.gear ∧ after.braking = true)) →
        t.tbc.pub.preBrake = after.preBrake)

/-- The request frame a row carries, with its kind's code (R14). -/
def requestOfRow : Instr → Option (Byte × Request)
  | .poll f => some (1, f)
  | .status f => some (2, f)
  | .read f => some (3, f)
  | .fetchNotice f => some (4, f)
  | .setNoticeLevel f => some (5, f)
  | .cfgLink f => some (6, f)
  | .resume f => some (7, f)
  | .restart f => some (8, f)
  | .start f => some (9, f)
  | .cfgLimits f => some (10, f)
  | .lockLimits f => some (11, f)
  | .cfgScanStep f => some (12, f)
  | .cfgRole f => some (13, f)
  | .cfgDraft f => some (14, f)
  | .cfgSpeedInput f => some (15, f)
  | .scanStart f => some (16, f)
  | .scanStop f => some (17, f)
  | .engineInfo f => some (18, f)
  | .cfgOutput f => some (19, f)
  | .cfgSupply f => some (20, f)
  | .cfgGear f => some (21, f)
  | .cfgProfileStepWrite f => some (22, f)
  | .cfgProfileStepTruncate f => some (22, f)
  | .cfgProfileMap f => some (23, f)
  | .cfgShift f => some (24, f)
  | .shift f => some (25, f)
  | .shuttle f => some (26, f)
  | .neutral f => some (27, f)
  | .cfgFront f => some (28, f)
  | .frontMode f => some (29, f)
  | .cfgHitch f => some (30, f)
  | .hitchSet f => some (31, f)
  | .hitchMode f => some (32, f)
  | .hitchHold f => some (33, f)
  | .hitchRelease f => some (34, f)
  | .cfgTrailer f => some (35, f)
  | .cfgCurvePoint f => some (36, f)
  | .trailerMode f => some (37, f)
  | .trailerHand f => some (38, f)
  | .lineCheck f => some (39, f)
  | .clearFault f => some (40, f)
  | .powerOn => none
  | .tornFrame _ => none
  | .crcFailure _ _ _ => none
  | .unknownRequest _ _ => none
  | .supervisionExpiry => none
  | .conversionStart => none
  | .conversionEnd _ _ => none
  | .fastSample _ _ => none
  | .shockTimerExpiry => none
  | .scanStepDelayEnd => none
  | .scanStepConversionEnd _ => none
  | .scanConversionTimeout => none
  | .scanStaleExpiry => none
  | .supplyQualificationExpiry => none
  | .pulseEdge _ => none
  | .pulseGapExpiry _ => none
  | .motionUpdate => none
  | .engineInfoStaleExpiry => none
  | .diagnosticSample _ _ _ => none
  | .overcurrentTrip _ _ => none
  | .shiftStart => none
  | .supplyWaitExpiry => none
  | .brakeWaitExpiry => none
  | .modulationUpdate => none
  | .stepTimeout => none
  | .recoveryFailure => none
  | .dumpTimeExpiry => none
  | .frontWaitExpiry => none
  | .chargeWindowExpiry => none
  | .trlSuppLowHoldExpiry => none
  | .lineCheckStageExpiry => none
  | .preBrakeRunOutExpiry => none

/-- The fixed body size of each kind of the catalogue (R8). -/
def bodySize (kind : Byte) : Nat :=
  match kind.toNat with
  | 3 | 23 | 37 | 38 | 40 => 2
  | 5 | 29 | 32 => 1
  | 6 | 20 => 4
  | 10 => 12
  | 12 | 18 | 31 | 35 => 6
  | 13 | 15 | 24 | 36 => 5
  | 14 | 28 => 14
  | 19 | 21 => 7
  | 22 | 30 => 15
  | 25 => 3
  | _ => 0

/-- The kinds that are taken in CONFIG only (R27). -/
def configKinds : List Byte := [9, 10, 12, 13, 14, 15, 16, 17, 19, 20, 21, 22, 23, 24, 35, 36]

/-- The kinds that are taken in RUN only by the part state (R27). -/
def runKinds : List Byte := [25, 26, 27, 29, 31, 32, 33, 34, 37, 38, 39]

/-! ### What holds of every state -/

/-- No queue, ring or table holds more than its rule allows, and ATTN is what the queue and the threshold give
(R17, R20, R68, R101, R113, R180); the pressure from which BRAKING is set is not 0 (R179). -/
def Bounded (s : State) : Prop :=
  s.lp.notices.length ≤ Config.noticeCap ∧ s.lp.attn = attnOf s.lp.threshold s.lp.notices
    ∧ s.sc.queue.length ≤ Config.shiftCap ∧ s.me.ring.length ≤ 8 ∧ s.tbc.curve.length ≤ 8
    ∧ 1 ≤ s.tbc.pBrakeOn ∧ ∀ p : Fin 8, (s.sc.profiles[p]).length ≤ 12

/-- A channel drives only in RUN, not forced, characterised, and commanded above zero; its command lies in its
channel's range (R77, R79, R80, R81). -/
def ChanSafe (part : PartState) (i : Fin 14) (ch : Chan) : Prop :=
  ch.command ≤ chanMax i
    ∧ (0 < ch.drive → part = .run ∧ ch.forced = false ∧ ch.charac ≠ none ∧ ch.command ≠ 0)

/-- Every channel is safe; FRONT_RELEASE is energised only with the supply NORMAL and commanded only in RELEASED and
ENGAGE_WAIT (R81, R138); the control line is never commanded above P_trl_max in RUN (R182). -/
def ValvesSafe (s : State) : Prop :=
  (∀ i : Fin 14, ChanSafe s.pc.part i s.vo.chan[i])
    ∧ (s.vo.supply = .low → (s.vo.chan[chFront]).drive = 0)
    ∧ ((s.vo.chan[chFront]).command ≠ 0 → s.fdm.state = .released ∨ s.fdm.state = .engageWait)
    ∧ (s.pc.part = .run → (s.vo.chan[chCtrl]).command ≤ s.pc.limits.pTrlMax)

/-- Between events the brake record stands published as the TBC holds it, and the timeout entry in hand is one of the
two that a step's timeout raises (R127, R177). -/
def Coherent (s : State) : Prop := s.tbc.cur = s.tbc.pub ∧ KnownTimeout s

/-- The two hitch channels carry the commands of the hitch record, as the table of R153 bounds them by state: RAISE and LOWER
are never both commanded; LOCKED_OUT, HELD and STOPPED command neither, TRANSPORT not RAISE once the upper limit was reached,
and LOWER is commanded only in CONTROL; a state that can run the control law, now or after its hold, has a valid position
(R153, R158, R164, R168). -/
def HitchSafe (s : State) : Prop :=
  let h := s.hc
  let raise := (s.vo.chan[chRaise]).command
  let lower := (s.vo.chan[chLower]).command
  raise = min h.raiseCmd 1000 ∧ lower = min h.lowerCmd 1000 ∧ (raise = 0 ∨ lower = 0)
    ∧ (0 < raise → h.state = .control ∨ h.state = .headland ∨ h.state = .shock
        ∨ (h.state = .transport ∧ h.reached = false))
    ∧ (0 < lower → h.state = .control)
    ∧ (h.state = .control ∨ h.state = .shock ∨ (h.state = .held ∧ h.ret = .control) → h.posValid = true)

/-- In RUN the front drive is FORCED while a cause is set, and ENGAGED or FORCED while the brake record shows BRAKING
(R145, R149). -/
def FrontSafe (s : State) : Prop :=
  s.pc.part = .run →
    (s.fdm.anyCause = true → s.fdm.state = .forced)
      ∧ (s.tbc.pub.braking = true → s.fdm.state = .engaged ∨ s.fdm.state = .forced)

end Sys2Proof.Machine
end

