-- ==== Sys2Proof/WellFormed.lean ====
section
/-! DEFINITION. Which terms of `Instr` name an event of their row: a request carries the 27 body bytes of its
frame, a torn frame has a bit count other than 256, a CRC failure a CRC that does not match, an unknown request
a kind outside the catalogue, a trip a current above its threshold, the two profile rows their operation byte. -/

namespace Sys2Proof

/-- A request frame carries 27 body bytes (R2). -/
def Request.wf (f : Request) : Bool := decide (f.body.length = 27)

/-- A term of `Instr` names an event of its row. -/
def Instr.wf : Instr → Bool
  | .powerOn => true
  | .tornFrame bits => decide (bits.length ≠ 256)
  | .crcFailure kind f crc => f.wf && decide (crc16 (frameHead kind f) ≠ crc)
  | .unknownRequest kind f => f.wf && decide (kind.toNat = 0 ∨ 40 < kind.toNat)
  | .poll f => f.wf
  | .status f => f.wf
  | .read f => f.wf
  | .fetchNotice f => f.wf
  | .setNoticeLevel f => f.wf
  | .cfgLink f => f.wf
  | .resume f => f.wf
  | .restart f => f.wf
  | .start f => f.wf
  | .cfgLimits f => f.wf
  | .lockLimits f => f.wf
  | .cfgScanStep f => f.wf
  | .cfgRole f => f.wf
  | .cfgDraft f => f.wf
  | .cfgSpeedInput f => f.wf
  | .scanStart f => f.wf
  | .scanStop f => f.wf
  | .engineInfo f => f.wf
  | .cfgOutput f => f.wf
  | .cfgSupply f => f.wf
  | .cfgGear f => f.wf
  | .cfgProfileStepWrite f => f.wf && decide (f.u8 2 ≠ 1)
  | .cfgProfileStepTruncate f => f.wf && decide (f.u8 2 = 1)
  | .cfgProfileMap f => f.wf
  | .cfgShift f => f.wf
  | .shift f => f.wf
  | .shuttle f => f.wf
  | .neutral f => f.wf
  | .cfgFront f => f.wf
  | .frontMode f => f.wf
  | .cfgHitch f => f.wf
  | .hitchSet f => f.wf
  | .hitchMode f => f.wf
  | .hitchHold f => f.wf
  | .hitchRelease f => f.wf
  | .cfgTrailer f => f.wf
  | .cfgCurvePoint f => f.wf
  | .trailerMode f => f.wf
  | .trailerHand f => f.wf
  | .lineCheck f => f.wf
  | .clearFault f => f.wf
  | .supervisionExpiry => true
  | .conversionStart => true
  | .conversionEnd _ _ => true
  | .fastSample _ _ => true
  | .shockTimerExpiry => true
  | .scanStepDelayEnd => true
  | .scanStepConversionEnd _ => true
  | .scanConversionTimeout => true
  | .scanStaleExpiry => true
  | .supplyQualificationExpiry => true
  | .pulseEdge _ => true
  | .pulseGapExpiry _ => true
  | .motionUpdate => true
  | .engineInfoStaleExpiry => true
  | .diagnosticSample _ _ _ => true
  | .overcurrentTrip _ current => decide (Config.tripCurrent < current.toNat)
  | .shiftStart => true
  | .supplyWaitExpiry => true
  | .brakeWaitExpiry => true
  | .modulationUpdate => true
  | .stepTimeout => true
  | .recoveryFailure => true
  | .dumpTimeExpiry => true
  | .frontWaitExpiry => true
  | .chargeWindowExpiry => true
  | .trlSuppLowHoldExpiry => true
  | .lineCheckStageExpiry => true
  | .preBrakeRunOutExpiry => true

end Sys2Proof
end

