-- ==== Sys2Proof/Certificates/Slice0/Obligations.lean ====
section
/-! DEFINITION. The statements for the provers, each from the rules of spec/ that its docstring names. -/

open Sys2Proof Sys2Proof.Machine

/-! ### The machine -/

/-- A step takes the command at the front of the queue and runs it with the queue's rest; with no command waiting it only
lets part time run on by one microsecond, the model's choice of a tick (log entry 1) on the time base of chapter 00. -/
def Obligations.StepRunsTheFrontCommand : Prop :=
  (∀ (c : Instr) (rest : List Instr) (s : State),
    step { s with pending := c :: rest } = exec c { s with pending := rest }) ∧
  (∀ s : State, s.pending = [] → step s = .next { s with time := s.time + 1 })

/-- POWER_ON puts the part in the state of R25 and R26, with every table empty and every output at zero current, and
keeps only the commands that wait (log entry 2). -/
def Obligations.PowerOnGivesTheResetState : Prop :=
  (∀ s : State, exec .powerOn s = .next { State.reset with pending := s.pending }) ∧
  let r := State.reset
  r.time = 0 ∧ r.pc.part = .config ∧ r.pc.lock = false ∧ r.pc.limits = ⟨12, 8, 12, 6, 1500, 1000, 2000, 2400⟩
    ∧ (∀ i : Fin 12, (r.sc.gears[i]).enabled = false) ∧ (∀ p : Fin 8, r.sc.profiles[p] = [])
    ∧ (∀ e : Fin 7, r.sc.map[e] = none) ∧ r.tbc.curve = [] ∧ (∀ i : Fin 16, (r.mu.steps[i]).enabled = false)
    ∧ (∀ i : Fin 14, (r.vo.chan[i]).charac = none ∧ (r.vo.chan[i]).drive = 0)
    ∧ r.mu.dc.running = false ∧ r.mu.foc.running = false ∧ r.mu.run = none ∧ (∀ i : Fin 47, r.ft[i] = {})
    ∧ r.lp.slot = mkReply 1 0 0 0 [] ∧ r.lp.frame = [] ∧ r.lp.notices = [] ∧ r.lp.lost = false
    ∧ r.lp.lostMarker = false ∧ r.lp.attn = false ∧ r.lp.threshold = 1 ∧ r.lp.tLink = 200 ∧ r.lp.policy = .safe
    ∧ r.lp.link = .up ∧ r.lp.supervision = none

/-- The invariants that steps keep hold of the reset state. -/
def Obligations.ResetMeetsTheInvariants : Prop :=
  Bounded State.reset ∧ State.reset.undelivered = 0 ∧ ValvesSafe State.reset ∧ HitchSafe State.reset
    ∧ FrontSafe State.reset ∧ Coherent State.reset

/-! ### Frames (R2 to R7, R23) -/

/-- The 256 bits of a request frame carry the whole request: taken bit by bit, most significant first, they run the
row of that request with its tag, its length byte and its 27 body bytes; and the CRC of the nine ASCII characters
"123456789" is the manual's check value (R2, R4, R7). That a torn frame's term of 256 bits is taken as the frame its
bits are is the model's own choice of log entry 10. -/
def Obligations.FrameBitsRunTheirRequest : Prop :=
  (∀ (c : Instr) (k : Byte) (f : Request) (s : State), requestOfRow c = some (k, f) → f.wf = true →
    (bytesBits (frameBytes k f (crc16 (frameHead k f)))).length = 256 ∧
    exec (.tornFrame (bytesBits (frameBytes k f (crc16 (frameHead k f))))) s = exec c s) ∧
  crc16 [0x31, 0x32, 0x33, 0x34, 0x35, 0x36, 0x37, 0x38, 0x39] = 0x29B1

/-- A torn frame writes the frame buffer and what it shifted out; a CRC failure fills the frame buffer, shifts the slot's
reply out whole and delivers it, is answered LINK_ERROR with reason 1 and does not restart the supervision timer; a kind
outside the catalogue is answered REFUSED_UNKNOWN. A catalogued request whose length byte is not its kind's body size is
refused with REFUSED_RANGE, and one that is not taken in the present part state with REFUSED_STATE, whatever its fields
hold. None of them changes anything else; a STATUS reply with the notices-lost flag that any of them but a torn frame
delivers clears the flag, unless a notice was lost since (R3, R5, R6, R7, R8, R19, R27). It rests on the model's own
choices of log entries 8 and 10. -/
def Obligations.BadFramesAndRequestsExecuteNothing : Prop :=
  (∀ (bits : List Bool) (s : State), bits.length ≠ 256 →
    exec (.tornFrame bits) s = .next { s with lp := { s.lp with
      frame := bits.take 256, bitCount := bits.length
      dataOut := (bytesBits s.lp.slot.bytes).take bits.length ++ List.replicate (bits.length - 256) true } }) ∧
  (∀ (kind : Byte) (f : Request) (crc : Word16) (s : State), crc ≠ crc16 (frameHead kind f) →
    ∃ t, exec (.crcFailure kind f crc) s = .next t ∧ Replied 255 f .linkError [1] s t
      ∧ Clocked (bytesBits (frameBytes kind f crc)) s.lp t.lp ∧ t.lp.lost = lostAfter s.lp
      ∧ t.lp.supervision = s.lp.supervision) ∧
  (∀ (kind : Byte) (f : Request) (s : State), Ready s → kind.toNat = 0 ∨ 40 < kind.toNat →
    Answers (.unknownRequest kind f) s kind f .refusedUnknown [] s) ∧
  (∀ (c : Instr) (k : Byte) (f : Request) (s : State), requestOfRow c = some (k, f) → Ready s →
    (f.len.toNat ≠ bodySize k → Answers c s k f .refusedRange [] s) ∧
    (f.len.toNat = bodySize k → (s.inRun = true ∧ k ∈ configKinds) ∨ (s.inRun = false ∧ k ∈ runKinds) →
      Answers c s k f .refusedState [] s))

/-- A request frame, of a kind of the catalogue or of another, fills the frame buffer with its own 256 bits, shifts the
slot's reply out whole and, in RUN, restarts the supervision timer for a full T_link; START and RESTART, which set the
timer themselves, apart. The notices-lost flag is cleared by the delivery of a STATUS reply that carried it, unless a
notice was lost since, and is else kept; only a notice lost at the frame itself, to a queue that is full and stays so but
at FETCH_NOTICE, sets it, and the marker with it; STATUS and RESTART, which clear the marker or both, apart. The 32 bytes
of a reply are its kind, tag, status and part summary, the body padded with zeros, and the CRC of the first thirty, high
byte first; the CRC takes each byte's bits from the most significant down, from 0xFFFF by 0x1021; and the bits of the part
summary are, from bit 0, RUN, ATTN, notices lost, link lost, an ACTIVE and a LATCHED entry, and two zeros. The fields of a
body take one byte or two, high byte first, a signed one in two's complement, a flag as 0 or 1, and the status codes are 0
to 12 in their order (R2, R3, R4, R7, R8, R10, R11, R17, R19, R22). It rests on the model's own choices of log entry 8. -/
def Obligations.FrameShiftsTheReplyOut : Prop :=
  (∀ (c : Instr) (k : Byte) (f : Request) (s : State), requestOfRow c = some (k, f) ∨ c = .unknownRequest k f →
    ∃ t, exec c s = .next t ∧ Clocked (bytesBits (frameBytes k f (crc16 (frameHead k f)))) s.lp t.lp
      ∧ (k ≠ 8 → k ≠ 9 →
          t.lp.supervision = if s.inRun then some (s.time + 1000 * s.lp.tLink) else s.lp.supervision)
      ∧ (k ≠ 2 → k ≠ 8 → ∃ more : Bool, t.lp.lost = (lostAfter s.lp || more)
          ∧ t.lp.lostMarker = (s.lp.lostMarker || more) ∧ (more = true → k = 4 ∨ 16 ≤ t.lp.notices.length))) ∧
  (∀ (kind tag status summary : Byte) (body : List Byte), body.length ≤ 26 →
    let head := [kind, tag, status, summary] ++ body ++ List.replicate (26 - body.length) 0
    (mkReply kind tag status summary body).bytes =
      head ++ [BitVec.ofNat 8 ((crc16 head).toNat / 256), BitVec.ofNat 8 (crc16 head).toNat]) ∧
  (crc16 [] = 0xFFFF ∧ ∀ (l : List Byte) (b : Byte), crc16 (l ++ [b]) =
    [7, 6, 5, 4, 3, 2, 1, 0].foldl
      (fun (c : Word16) i => (c <<< 1) ^^^ (if c.getLsbD 15 = b.getLsbD i then 0 else 0x1021)) (crc16 l)) ∧
  (∀ s : State,
    let p := partSummary s
    p.getLsbD 0 = s.inRun ∧ p.getLsbD 1 = s.lp.attn ∧ p.getLsbD 2 = s.lp.lost ∧ p.getLsbD 3 = decide (s.lp.link ≠ .up)
      ∧ p.getLsbD 4 = decide (∃ i : Fin 47, (s.ft[i]).state = .active)
      ∧ p.getLsbD 5 = decide (∃ i : Fin 47, (s.ft[i]).state = .latched)
      ∧ p.getLsbD 6 = false ∧ p.getLsbD 7 = false) ∧
  (∀ (n : Fin 65536) (v : Int) (b : Bool), -32768 ≤ v → v ≤ 32767 →
    (n.val < 256 → be8 n = [BitVec.ofNat 8 n]) ∧ be16 n = [BitVec.ofNat 8 (n / 256), BitVec.ofNat 8 (n % 256)] ∧
    beInt v = be16 (if v < 0 then v + 65536 else v).toNat ∧ beBool b = [if b then 1 else 0]) ∧
  (∀ (f : Request) (i : Nat),
    let byte (i : Nat) : Nat := (f.body.getD i 0).toNat
    f.u8 i = byte i ∧ f.u16 i = 256 * byte i + byte (i + 1) ∧
    f.s8 i = (if byte i < 128 then (byte i : Int) else byte i - 256) ∧
    f.s16 i = (if f.u16 i < 32768 then (f.u16 i : Int) else f.u16 i - 65536)) ∧
  [Status.ok, .okClamped, .okMerged, .okQueued, .refusedState, .refusedRange, .refusedLocked, .refusedFault,
    .refusedQueueFull, .refusedCondition, .refusedConfig, .refusedUnknown, .linkError].map (fun x => (Status.code x).toNat) =
    List.range 13

/-- A valid frame, of a kind of the catalogue or of another, that arrives with the link LOST in RUN first makes the link
state RESTORED_WAIT, posts LINK_RESTORED with the length of the loss in ms and ends LINK_LOST; the request is then
executed, or refused as unknown, in that state (R7, R23). That the length is the difference of the true times, truncated
to ms after it is formed, is the model's reading of log entry 24. -/
def Obligations.RestoringFrameThenRunsItsRequest : Prop :=
  ∀ (c : Instr) (k : Byte) (f : Request) (s : State), requestOfRow c = some (k, f) ∨ c = .unknownRequest k f →
    s.inRun = true → s.lp.link = .lost →
    let r := ftEnd fLinkLost (post .linkRestored (min 65535 ((s.time - s.lp.lossTime) / 1000)) 0
      { s with lp := { s.lp with link := .restoredWait } })
    exec c s = exec c r ∧ r.lp.link = .restoredWait
      ∧ ((s.ft[fLinkLost]).state = .active → (r.ft[fLinkLost]).state = .latched) ∧ r.sc = s.sc ∧ r.fdm = s.fdm
      ∧ r.hc = s.hc ∧ r.tbc = s.tbc

/-! ### The Link Port's requests (R12 to R24) -/

/-- POLL, STATUS and READ answer OK with an empty body, the twelve bytes of STATUS and the fields of the item read in
their chapter's order and widths, in both part states; POLL and READ change no state, a STATUS that reports the
notices-lost flag clears its marker, and the frame of each delivers the reply in the slot, as R19 gives. The enumerations
are coded from 0 in the order of their chapters. An item or index out of range is refused (R12, R13, R56, R64, R74, R105,
R110, R113, R137, R152, R177, R196). -/
def Obligations.PollStatusAndReadReport : Prop :=
  (∀ (f : Request) (s : State), Ready s → f.len = 0 → Answers (.poll f) s 1 f .ok [] s) ∧
  (∀ (f : Request) (s : State), Ready s → f.len = 0 →
    let lost := lostAfter s.lp
    ∃ t, exec (.status f) s = .next t ∧ t.lp.lost = lost ∧
      Replied 2 f .ok
        (be8 s.pc.part.code ++ be8 s.lp.link.code ++ be8 s.lp.policy.code ++ be16 s.lp.tLink ++ be8 s.lp.threshold
          ++ be8 s.lp.notices.length ++ beBool lost ++ be16 (s.time / 1000 % 65536) ++ be8 (countActive s.ft)
          ++ be8 (countLatched s.ft))
        { s with lp := { s.lp with lostMarker := s.lp.lostMarker && !lost } } t) ∧
  (∀ (f : Request) (s : State), Ready s → f.len = 2 →
    let item := f.u8 0
    let time (t : Nat) := be16 (t / 1000 % 65536)
    let gives (body : List Byte) := Answers (.read f) s 3 f .ok body s
    let n := s.mu.snapshot
    let m := s.me.pub
    let e := s.me.engine
    let d := s.sc.pub
    let w := s.sc.window
    let h := s.hc
    let r := s.fdm
    let b := s.tbc.pub
    (∀ k : Fin 16, item = 0 → f.u8 1 = k.val →
      let x := n.entries[k]
      gives (be16 n.run ++ time n.time ++ be8 k.val
        ++ (if x.present then [1] ++ beInt x.value ++ beBool x.valid ++ be16 x.age else [0, 0, 0, 0, 0, 0])
        ++ beBool s.mu.run.isSome ++ beBool s.mu.stopPending)) ∧
    (item = 1 → gives (time m.time ++ be16 m.vR ++ be16 m.vF ++ be16 m.vG ++ beBool m.vGValid ++ be16 m.nIn
      ++ be16 m.nOut ++ be16 m.slip ++ beBool m.slipValid ++ be8 m.ringEntries ++ be16 m.lead ++ beBool m.leadValid
      ++ beBool m.standstill ++ be8 m.dir.code ++ beBool m.inputSuspect ++ beBool m.frontSuspect
      ++ beBool m.radarSuspect)) ∧
    (item = 2 → gives (be16 e.speed ++ be16 e.torque ++ beInt e.oil ++ time e.received ++ beBool e.stale
      ++ be16 (if e.stale then 1000 else e.torque) ++ beInt (if e.stale then 20 else e.oil))) ∧
    (item = 3 → gives (time d.time ++ be8 d.dir.code ++ be8 d.gear ++ be8 d.state.code ++ be8 d.kind.code
      ++ be8 d.sense.code ++ be8 d.phase.code ++ be8 d.step ++ be8 d.tgtDir.code ++ be8 d.tgtGear
      ++ beBool d.above)) ∧
    (item = 4 → gives ([1] ++ be8 w.gHigh ++ be8 w.reverseCap ++ be8 w.basis.code ++ beBool w.faultCap
      ++ time w.time)) ∧
    (item = 5 → gives (time h.changeTime ++ be8 h.state.code ++ be8 h.ret.code ++ beBool h.causeRequest
      ++ beBool h.causeSupply ++ beBool h.causeLink ++ beBool h.holdPending ++ beBool h.stopPosition
      ++ beBool h.stopStall ++ beBool h.stopOutput ++ be16 h.lever ++ beBool h.leverHeld ++ be8 h.mix
      ++ beBool h.slipLimiting ++ be16 h.pos ++ beBool h.posValid ++ beInt h.draft ++ beBool h.draftValid
      ++ be16 h.raiseCmd ++ be16 h.lowerCmd)) ∧
    (item = 6 → gives (time r.changeTime ++ be8 r.state.code ++ be8 r.prev.code ++ be8 r.mode.code ++ be8 r.want.code
      ++ be8 r.blocked.code ++ beBool r.causeConfig ++ beBool r.causeSupply ++ beBool r.causeOutput
      ++ beBool r.causeLink ++ beBool r.slipDemand ++ (if r.state = .engageWait then time r.waitStart else [0, 0]))) ∧
    (item = 7 → gives (time b.time ++ be8 b.mode.code ++ beBool b.present ++ be16 b.pPedal ++ beBool b.pedalValid
      ++ beBool b.braking ++ be16 b.hand ++ beBool b.verified ++ be8 b.check.code ++ be8 b.outcome.code
      ++ be16 b.pCmd ++ be16 b.ctrl ++ beBool b.ctrlValid ++ be8 b.supp.code ++ be16 b.suppP ++ beBool b.suppValid
      ++ beBool b.chargeOpen ++ be8 b.preBrake.code ++ beBool b.policyOn)) ∧
    (∀ k : Fin 47, item = 8 → f.u8 1 = k.val →
      let x := s.ft[k]
      gives (be8 k.val ++ be8 x.state.code ++ be8 x.count ++ time x.first ++ time x.last ++ be16 x.detail.toNat
        ++ be8 (faultLevel k) ++ be8 (faultClass k).code ++ beBool (faultBlocking k))) ∧
    (item = 9 → gives (be8 s.sc.queue.length ++ s.sc.queue.flatMap fun q =>
      be8 (if q.kind = .gear then 0 else 1) ++ be8 q.gear ++ be8 q.dir.code ++ time q.time)) ∧
    (9 < item ∨ (item = 0 ∧ 15 < f.u8 1) ∨ (item = 8 ∧ 46 < f.u8 1) → Answers (.read f) s 3 f .refusedRange [] s)) ∧
  ([PartState.config, .run].map PartState.code = [0, 1] ∧ [LinkState.up, .lost, .restoredWait].map LinkState.code = [0, 1, 2]
    ∧ [Policy.hold, .safe].map Policy.code = [0, 1] ∧ [Dir.f, .r, .n].map Dir.code = [0, 1, 2]
    ∧ [ShiftState.idle, .pending, .stepping, .recovering, .aborting].map ShiftState.code = List.range 5
    ∧ [ShiftKind.none, .speed, .range, .shuttle, .engage, .disengage].map ShiftKind.code = List.range 6
    ∧ [Sense.none, .up, .down].map Sense.code = [0, 1, 2]
    ∧ [Phase.none, .fill, .torque, .inertia, .lock].map Phase.code = List.range 5
    ∧ [Basis.none, .field, .road, .unverified].map Basis.code = List.range 4
    ∧ [HitchState.lockedOut, .control, .headland, .transport, .shock, .held, .stopped].map HitchState.code = List.range 7
    ∧ [FrontState.released, .engaged, .engageWait, .forced].map FrontState.code = List.range 4
    ∧ [FrontMode.off, .on, .auto].map FrontMode.code = [0, 1, 2] ∧ [Want.engage, .release, .keep].map Want.code = [0, 1, 2]
    ∧ [Guard.none, .dwell, .phase].map Guard.code = [0, 1, 2]
    ∧ [TrailerMode.park, .field, .road].map TrailerMode.code = [0, 1, 2]
    ∧ [CheckState.idle, .stage1, .stage2].map CheckState.code = [0, 1, 2]
    ∧ [CheckOutcome.none, .passed, .failed, .aborted].map CheckOutcome.code = List.range 4
    ∧ [SuppState.vented, .charging, .charged].map SuppState.code = [0, 1, 2]
    ∧ [PreBrake.off, .active, .runOut].map PreBrake.code = [0, 1, 2]
    ∧ [EntryState.clear, .active, .latched].map EntryState.code = [0, 1, 2]
    ∧ [FaultClass.gearbox, .hitch, .front, .trailer, .none, .all].map FaultClass.code = List.range 6)

/-- FETCH_NOTICE returns up to two notices from the head of the queue, oldest first, with their count, removes exactly
those, and evaluates ATTN again. A notice is returned as its nine bytes: kind, level, source block, the time of its creation
in ms, value 1 and value 2, each of two bytes high byte first, kinds and blocks coded in the order of R15 (R15, R18,
R20). -/
def Obligations.FetchNoticeRemovesTheOldestTwo : Prop :=
  (∀ (f : Request) (s : State), Ready s → f.len = 0 →
    let rest := s.lp.notices.drop 2
    Answers (.fetchNotice f) s 4 f .ok
      (be8 (min 2 s.lp.notices.length) ++ (s.lp.notices.take 2).flatMap noticeBytes)
      { s with lp := { s.lp with
        notices := rest, attn := decide (∃ n ∈ rest, n.level = 3 ∨ s.lp.threshold ≤ n.level) } } ∧
    ∀ n ∈ s.lp.notices, (noticeBytes n).length = 9) ∧
  (∀ (i : Fin 18) (j : Fin 10) (level time : Nat) (v1 v2 : Word16), level ≤ 3 →
    let kinds : List NoticeKind := [.shiftDone, .shiftClamped, .shiftDropped, .shiftRecovered, .shiftNeutraled,
      .windowChanged, .aboveWindow, .frontChanged, .frontWaitExpired, .hitchState, .hitchShock, .supplyChanged,
      .trailerModeChanged, .lineCheckResult, .faultRaised, .faultEnded, .linkRestored, .scanDone]
    let blocks : List Block := [.lp, .pc, .mu, .me, .vo, .sc, .fdm, .hc, .tbc, .ft]
    let high (n : Nat) : Byte := BitVec.ofNat 8 (n / 256)
    let low (n : Nat) : Byte := BitVec.ofNat 8 (n % 256)
    let at_ := time / 1000 % 65536
    noticeBytes ⟨kinds.getD i.val .shiftDone, level, blocks.getD j.val .lp, time, v1, v2⟩ =
      [low i.val, low level, low j.val, high at_, low at_, high v1.toNat, low v1.toNat, high v2.toNat, low v2.toNat])

/-- A notice offered to a queue with room is appended. At sixteen notices one of a level above the lowest present
replaces the oldest of that lowest level and stands at the tail, and any other is discarded; in both full cases the
notices-lost flag and its marker are set. ATTN follows the queue and the threshold (R17, R20). -/
def Obligations.NoticeQueueOffersByLevel : Prop :=
  ∀ (n : Notice) (lp : LinkPort), n.level ≤ 3 →
    let q := lp.notices
    let r := offerNotice n lp
    (q.length < 16 → r = { lp with notices := q ++ [n], attn := r.attn }) ∧
    (q.length = 16 →
      r = { lp with notices := r.notices, lost := true, lostMarker := true, attn := r.attn } ∧
      (∀ (a : List Notice) (m : Notice) (b : List Notice), q = a ++ m :: b → (∀ x ∈ q, m.level ≤ x.level) →
        (∀ x ∈ a, m.level < x.level) →
        r.notices = if m.level < n.level then a ++ b ++ [n] else q)) ∧
    (r.attn = true ↔ ∃ x ∈ r.notices, x.level = 3 ∨ lp.threshold ≤ x.level)

/-- SET_NOTICE_LEVEL and CFG_LINK: the threshold takes a value of 0..3 and ATTN follows it; T_link and the policy are
set in CONFIG only, and in RUN a request that differs in them is refused whole (R20, R21). -/
def Obligations.NoticeLevelAndLinkSettings : Prop :=
  let withThreshold (n : Nat) (lp : LinkPort) : LinkPort :=
    { lp with threshold := n, attn := decide (∃ x ∈ lp.notices, x.level = 3 ∨ n ≤ x.level) }
  (∀ (f : Request) (s : State), Ready s → f.len = 1 →
    (f.u8 0 ≤ 3 → Answers (.setNoticeLevel f) s 5 f .ok [] { s with lp := withThreshold (f.u8 0) s.lp }) ∧
    (3 < f.u8 0 → Answers (.setNoticeLevel f) s 5 f .refusedRange [] s)) ∧
  (∀ (f : Request) (s : State), Ready s → f.len = 4 →
    let inRanges := 20 ≤ f.u16 0 ∧ f.u16 0 ≤ 1000 ∧ f.u8 2 ≤ 1 ∧ f.u8 3 ≤ 3
    let policy : Policy := if f.u8 2 = 0 then .hold else .safe
    let same := f.u16 0 = s.lp.tLink ∧ policy = s.lp.policy
    (¬inRanges → Answers (.cfgLink f) s 6 f .refusedRange [] s) ∧
    (inRanges → s.inRun = false →
      Answers (.cfgLink f) s 6 f .ok []
        { s with lp := withThreshold (f.u8 3) { s.lp with tLink := f.u16 0, policy := policy } }) ∧
    (inRanges → s.inRun = true → ¬same → Answers (.cfgLink f) s 6 f .refusedState [] s) ∧
    (inRanges → s.inRun = true → same →
      Answers (.cfgLink f) s 6 f .ok [] { s with lp := withThreshold (f.u8 3) s.lp }))

/-- RESUME in RESTORED_WAIT makes the link UP, clears LINK_LOST and tells the jobs: the link causes and the policy
pressure are cleared, its term out of P_cmd, and a hitch HELD goes to LOCKED_OUT, with both valves at 0 and its notice, when
no other cause holds it, and else keeps LOCKED_OUT as its return state. Where the brake record stands, nothing else changes
at the SC and the FDM and nothing else is posted. With the link UP it is refused (R24, R136, R151, R153, R173, R178, R182,
R195). It rests on the model's own choices of log entries 4 and 11. -/
def Obligations.ResumeReturnsTheJobs : Prop :=
  (∀ (f : Request) (s : State), Ready s → f.len = 0 → s.lp.link = .restoredWait →
    ∃ t, exec (.resume f) s = .next t ∧ Answered t 7 f.tag .ok [] ∧ t.lp.link = .up ∧ t.ft[fLinkLost] = {}
      ∧ t.fdm.causeLink = false ∧ BrakeShows { s.tbc.cur with policyOn := false } s t
      ∧ (let h := s.hc
        let leaves := h.state = .held ∧ h.causeRequest = false ∧ h.causeSupply = false
        let told : Hitch := { h with causeLink := false, ret := if h.state = .held then .lockedOut else h.ret }
        (¬leaves → t.hc = told ∧ t.vo.chan[chRaise] = s.vo.chan[chRaise] ∧ t.vo.chan[chLower] = s.vo.chan[chLower]) ∧
        (leaves → t.hc = { told with
            prev := .held, state := .lockedOut, changeTime := s.time, raiseCmd := 0, lowerCmd := 0 }
          ∧ (t.vo.chan[chRaise]).command = 0 ∧ (t.vo.chan[chLower]).command = 0) ∧
        (BrakeQuiet s → s.tbc.cur.policyOn = false → t.fdm = { s.fdm with causeLink := false } ∧ t.sc = s.sc
          ∧ t.lp.notices = (offerAll (if leaves then [noticeOf s .hitchState 0 .hc 0 5] else []) s.lp).notices))
      ∧ KeepsMeasures s t ∧ t.vo.supply = s.vo.supply) ∧
  (∀ (f : Request) (s : State), Ready s → f.len = 0 → s.lp.link = .up →
    Answers (.resume f) s 7 f .refusedState [] s)

/-- SUPERVISION_EXPIRY: the link becomes LOST, the timer stops and the time is kept; LINK_LOST stands ACTIVE with the policy
as its detail. The shift queue is emptied, each entry with SHIFT_DROPPED (whose place between the fault's notice and the
hitch's is stated under HOLD), a PENDING head leaves IDLE behind, and the hitch is held, with both valves at 0, where it is
in CONTROL, SHOCK, HEADLAND or TRANSPORT. Under HOLD the gearbox and the trailer go on as they were. Under SAFE a shift in
flight, or a gear with the supply LOW, goes to ABORTING in neutral, a gear with the supply NORMAL is released by a DISENGAGE
that begins as ShiftBegins says, the front drive is FORCED, and a running line check is aborted: outside PARK the trailer
goes to PARK at standstill, its line vented, and is else braked by the policy pressure (R22, R98, R99, R117, R120, R130,
R135, R151, R173, R182, R192, R195). It rests on the model's own choices of log entries 4, 6, 11, 13 and 38. -/
def Obligations.SupervisionExpiryLosesTheLink : Prop :=
  ∀ s : State, s.undelivered = 0 → KnownTimeout s → s.inRun = true → s.due s.lp.supervision = true →
    let d := s.sc.pub
    let b := s.tbc.cur
    let rests := d.state = .idle ∨ d.state = .pending
    (∃ t, exec .supervisionExpiry s = .next t
      ∧ t.lp.link = .lost ∧ t.lp.supervision = none ∧ t.lp.lossTime = s.time ∧ t.lp.policy = s.lp.policy
      ∧ (t.ft[fLinkLost]).state = .active
      ∧ ((s.ft[fLinkLost]).state ≠ .active → (t.ft[fLinkLost]).detail = if s.lp.policy = .hold then 0 else 1)
      ∧ t.sc.queue = [] ∧ t.sc.pub.state ≠ .pending
      ∧ (let h := s.hc
        let lifts := h.causeLink = false
          ∧ (h.state = .control ∨ h.state = .shock ∨ h.state = .headland ∨ h.state = .transport)
        (¬lifts → t.hc = { h with causeLink := true }
          ∧ t.vo.chan[chRaise] = s.vo.chan[chRaise] ∧ t.vo.chan[chLower] = s.vo.chan[chLower]) ∧
        (lifts → t.hc = { h with
            causeLink := true, prev := h.state, state := .held, changeTime := s.time
            ret := if h.state = .shock then .control else h.state, raiseCmd := 0, lowerCmd := 0
            shockTimer := if h.state = .shock then none else h.shockTimer
            stall := if h.state = .control then none else h.stall }
          ∧ (t.vo.chan[chRaise]).command = 0 ∧ (t.vo.chan[chLower]).command = 0))
      ∧ KeepsMeasures s t
      ∧ (s.lp.policy = .hold →
          t.fdm.causeLink = s.fdm.causeLink
          ∧ t.sc.pub.state = (if d.state = .pending then .idle else d.state) ∧ t.sc.pub.dir = d.dir
          ∧ t.sc.pub.gear = d.gear ∧ (d.state ≠ .pending → t.sc.shift = s.sc.shift ∧ t.sc.modDue = s.sc.modDue)
          ∧ (∀ c : Fin 9, (t.vo.chan[clutchChan c]).command = (s.vo.chan[clutchChan c]).command)
          ∧ (BrakeQuiet s → t.lp.notices = (offerAll (raisedNote s fLinkLost 0
              ++ s.sc.queue.map (fun e => noticeOf s .shiftDropped 2 .sc e.gear 4)
              ++ if s.hc.causeLink = false ∧ t.hc.state ≠ s.hc.state then
                  [noticeOf s .hitchState 0 .hc 5 s.hc.state.code] else []) s.lp).notices)
          ∧ BrakeStands b s t ∧ t.tbc.stage = s.tbc.stage)
      ∧ (s.lp.policy = .safe →
          t.fdm.causeLink = true ∧ t.fdm.state = .forced
          ∧ (d.state = .stepping ∨ d.state = .recovering ∨ (rests ∧ d.dir ≠ .n ∧ s.vo.supply = .low) →
              t.sc.pub.state = .aborting ∧ t.sc.pub.dir = .n ∧ t.sc.pub.gear = 0 ∧ t.sc.pub.above = false
              ∧ t.sc.shift = none ∧ t.sc.modDue = none ∧ t.sc.dump = some (s.time + 100000)
              ∧ ∀ c : Fin 9, (t.vo.chan[clutchChan c]).command = 0)
          ∧ (rests → d.dir = .n → t.sc.pub.state = .idle ∧ t.sc.pub.dir = .n)
          ∧ (d.state = .aborting → t.sc.pub.state = .aborting ∧ t.sc.dump = s.sc.dump)
          ∧ t.tbc.stage = (if b.check = .idle then s.tbc.stage else none)
          ∧ (b.mode = .park → BrakeStands (checkAborted b) s t)
          ∧ (b.mode ≠ .park → s.me.pub.standstill = false → BrakeStands { checkAborted b with policyOn := true } s t
              ∧ min s.pc.limits.pTrlMax s.tbc.pSafe ≤ t.tbc.pub.pCmd)
          ∧ (b.mode ≠ .park → s.me.pub.standstill = true →
              BrakeStands { b with
                mode := .park, check := .idle, outcome := if b.check = .idle then b.outcome else .aborted
                policyOn := false, preBrake := .off, supp := .vented, chargeOpen := false } s t
              ∧ t.tbc.runOut = none ∧ t.tbc.charge = none ∧ t.tbc.lowHold = none
              ∧ ((s.ft[fSuppLow]).state = .active → (t.ft[fSuppLow]).state = .latched)))) ∧
    (s.lp.policy = .safe → rests → d.dir ≠ .n → s.vo.supply = .normal →
      ∀ p st, FirstStepRuns s .disengage .none .n 0 p st →
      ∃ t, exec .supervisionExpiry s = .next t ∧ ShiftBegins s .disengage .none .n 0 p st t)


/-! ### The Part Configuration (R27 to R36) -/

/-- RESTART returns to CONFIG from anything: it keeps the limit set, the lock, every table, setting and threshold, the
snapshot, the captures and the last window and motion record, and stops or empties everything that was running: no shift,
queue, wait, hold, check or timer of a block is left (R25, R35, R36, R59, R75, R88, R110, R113, R137, R152, R177, R196).
It rests on the model's own choices of log entry 12. -/
def Obligations.RestartKeepsTablesAndStopsEverything : Prop :=
  ∀ (f : Request) (s : State), f.len = 0 →
    ∃ t, exec (.restart f) s = .next t ∧ Answered t 8 f.tag .ok []
      ∧ t.time = s.time ∧ t.pending = s.pending ∧ t.undelivered = 0 ∧ t.pc = { s.pc with part := .config }
      ∧ t.lp.notices = [] ∧ t.lp.lost = false ∧ t.lp.lostMarker = false ∧ t.lp.attn = false ∧ t.lp.link = .up
      ∧ t.lp.supervision = none ∧ t.lp.tLink = s.lp.tLink ∧ t.lp.policy = s.lp.policy
      ∧ t.lp.threshold = s.lp.threshold
      ∧ t.vo = { chan := t.vo.chan, pLow := s.vo.pLow, pOk := s.vo.pOk }
      ∧ (∀ i : Fin 14, t.vo.chan[i] = { charac := (s.vo.chan[i]).charac })
      ∧ t.sc = { gears := s.sc.gears, profiles := s.sc.profiles, map := s.sc.map, kLoad := s.sc.kLoad
                 pFillDetect := s.sc.pFillDetect, wSync := s.sc.wSync, window := s.sc.window, pub := { time := s.time } }
      ∧ t.fdm = { vOn := s.fdm.vOn, vOff := s.fdm.vOff, vCheck := s.fdm.vCheck, s4wd := s.fdm.s4wd
                  aTurn := s.fdm.aTurn, leadLow := s.fdm.leadLow, leadHigh := s.fdm.leadHigh
                  changeTime := s.time, state := .forced, prev := s.fdm.state, mode := s.fdm.mode, want := .keep
                  causeConfig := true }
      ∧ t.hc = { cfg := s.hc.cfg, changeTime := s.time }
      ∧ t.tbc = { curve := s.tbc.curve, pBrakeOn := s.tbc.pBrakeOn, pPre := s.tbc.pPre, pSafe := s.tbc.pSafe
                  cur := { time := s.time }, pub := { time := s.time } }
      ∧ (∀ i : Fin 47, t.ft[i] = {})
      ∧ t.mu = { s.mu with
          dc := {}, foc := {}, draft := {}, draftInvalid := 0, run := none, stopPending := false, stale := none
          mem := t.mu.mem }
      ∧ (∀ r : Fin 16, t.mu.mem[r] = { s.mu.mem[r] with invalid := 0 })
      ∧ t.me = { s.me with updateDue := none, engineStale := none, engine := { s.me.engine with stale := false } }

/-- START passes exactly when its seven checks pass, and a START that fails one is refused with the number and the details
of the first that fails, the checks and the items of each taken in the order of R33, and changes nothing (R32, R33). -/
def Obligations.StartRefusesByItsSevenChecks : Prop :=
  (∀ s : State, startChecks s = none ↔
    (∃ g, 1 ≤ g ∧ g ≤ 12 ∧ gearEnabled s.sc.gears g = true)
    ∧ (∀ e : Fin 7, ∃ p, s.sc.map[e] = some p ∧ s.sc.profiles[p] ≠ [])
    ∧ (∀ c : Fin 9, clutchUsed s c = true →
        roleAssigned s.mu.steps c.val = true ∧ (s.vo.chan[clutchChan c]).charac ≠ none)
    ∧ (2 ≤ s.tbc.curve.length ∧ s.tbc.curve.length ≤ 8
        ∧ s.tbc.curve.Pairwise fun a b => a.1 ≤ b.1 ∧ a.2 ≤ b.2)
    ∧ (∀ r ∈ [9, 14, 12, 13, 10, 11], roleAssigned s.mu.steps r = true)
    ∧ s.mu.scanMode ≠ .single
    ∧ (s.pc.limits.gMaxUnverified ≤ s.pc.limits.gMaxRoad ∧ s.pc.limits.gMaxField ≤ s.pc.limits.gMaxRoad)) ∧
  (∀ (f : Request) (s : State), InConfig s → f.len = 0 →
    let refused (n a b : Nat) := Answers (.start f) s 9 f .refusedConfig (be8 n ++ be8 a ++ be8 b) s
    let on (g : Fin 12) := (s.sc.gears[g]).isSet = true ∧ (s.sc.gears[g]).enabled = true
    let used (c : Fin 9) := ∃ g : Fin 12, on g ∧
      if c.val < 4 then (s.sc.gears[g]).speed.val = c.val
      else if c.val < 7 then (s.sc.gears[g]).range.val + 4 = c.val
      else c.val = 7 ∨ g.val + 1 ≤ s.pc.limits.rMax
    let assigned (r : Nat) := ∃ i : Fin 16, (s.mu.steps[i]).enabled = true ∧ (s.mu.steps[i]).role = r
    let point (k : Nat) := s.tbc.curve.getD k (0, 0)
    let falls (k : Nat) := (point (k + 1)).1 < (point k).1 ∨ (point (k + 1)).2 < (point k).2
    let n := s.tbc.curve.length
    let need (k : Nat) := [9, 14, 12, 13, 10, 11].getD k 0
    let pass2 (e : Fin 7) := ∃ p, s.sc.map[e] = some p ∧ s.sc.profiles[p] ≠ []
    let pass3 (c : Fin 9) := used c → assigned c.val ∧ (s.vo.chan[clutchChan c]).charac ≠ none
    let to1 := ∃ g, on g
    let to2 := to1 ∧ ∀ e, pass2 e
    let to3 := to2 ∧ ∀ c, pass3 c
    let to4 := to3 ∧ 2 ≤ n ∧ n ≤ 8 ∧ ∀ k : Fin 7, k.val + 1 < n → ¬falls k.val
    let to5 := to4 ∧ ∀ k : Fin 6, assigned (need k.val)
    (¬to1 → refused 1 0 0) ∧
    (∀ e : Fin 7, to1 → (∀ i : Fin 7, i < e → pass2 i) →
      (s.sc.map[e] = none → refused 2 e.val 0) ∧
      (∀ p, s.sc.map[e] = some p → s.sc.profiles[p] = [] → refused 2 e.val 1)) ∧
    (∀ c : Fin 9, to2 → (∀ i : Fin 9, i < c → pass3 i) → used c →
      (¬assigned c.val → refused 3 c.val 0) ∧
      (assigned c.val → (s.vo.chan[clutchChan c]).charac = none → refused 3 c.val 1)) ∧
    (to3 → n < 2 ∨ 8 < n → refused 4 n 0) ∧
    (∀ k : Fin 7, to3 → k.val + 1 < n → n ≤ 8 → (∀ i : Fin 7, i < k → ¬falls i.val) → falls k.val →
      refused 4 n (k.val + 2)) ∧
    (∀ k : Fin 6, to4 → (∀ i : Fin 6, i < k → assigned (need i.val)) → ¬assigned (need k.val) →
      refused 5 (need k.val) 0) ∧
    (to5 → s.mu.scanMode = .single → refused 6 1 0) ∧
    (to5 → s.mu.scanMode ≠ .single →
      (s.pc.limits.gMaxRoad < s.pc.limits.gMaxUnverified → refused 7 1 0) ∧
      (s.pc.limits.gMaxUnverified ≤ s.pc.limits.gMaxRoad → s.pc.limits.gMaxRoad < s.pc.limits.gMaxField →
        refused 7 2 0)))

/-- START with its checks passed enters RUN: supervision runs, the converters and timers run, the supply is LOW, every block
is in its initial state and the fault table keeps every entry but SUPPLY_LOW, which stands ACTIVE; its notice and
WINDOW_CHANGED are posted (R34, R63, R75, R83, R90, R105, R107, R110, R137, R152, R177). It rests on the model's own choices
of log entry 12. -/
def Obligations.StartEntersRun : Prop :=
  ∀ (f : Request) (s : State), InConfig s → f.len = 0 → startChecks s = none →
    ∃ t, exec (.start f) s = .next t ∧ Answered t 9 f.tag .ok []
      ∧ t.time = s.time ∧ t.pending = s.pending ∧ t.undelivered = 0 ∧ t.pc = { s.pc with part := .run }
      ∧ t.lp.link = .up ∧ t.lp.supervision = some (s.time + 1000 * s.lp.tLink)
      ∧ t.mu = { s.mu with
          run := t.mu.run, stopPending := false, dc := startDraft s.mu.cfg s.time, foc := startFast s.time, draft := {}
          stale := some (s.time + 50000) }
      ∧ (s.mu.scanMode = .continuous → t.mu.run.isSome = true) ∧ (s.mu.scanMode = .track → t.mu.run = none)
      ∧ t.me = { engine := { s.me.engine with stale := false }, updateDue := some (s.time + 10000)
                 engineStale := some (s.time + 500000) }
      ∧ t.vo.supply = .low ∧ t.vo.supplyHold = none
      ∧ (∀ i : Fin 14, (t.vo.chan[i]).charac = (s.vo.chan[i]).charac ∧ (t.vo.chan[i]).forced = false
          ∧ (t.vo.chan[i]).diag = some (s.time + 1000)
          ∧ (t.vo.chan[i]).command = if i = chCtrl then min s.pc.limits.pTrlMax 2000 else 0)
      ∧ t.sc.queue = [] ∧ t.sc.shift = none ∧ t.sc.pub = { time := s.time } ∧ t.sc.gears = s.sc.gears
      ∧ t.sc.window.basis = .field ∧ t.sc.window.reverseCap = s.pc.limits.rMax
      ∧ t.sc.window.faultCap = trailerFault s.ft ∧ t.sc.window.time = s.time
      ∧ t.sc.window.gHigh = (if trailerFault s.ft then min s.pc.limits.gMaxField s.pc.limits.gMaxUnverified
          else s.pc.limits.gMaxField)
      ∧ t.fdm = { vOn := s.fdm.vOn, vOff := s.fdm.vOff, vCheck := s.fdm.vCheck, s4wd := s.fdm.s4wd
                  aTurn := s.fdm.aTurn, leadLow := s.fdm.leadLow, leadHigh := s.fdm.leadHigh
                  changeTime := s.time, state := .forced, prev := s.fdm.prev, mode := .auto, want := .keep
                  causeConfig := false, causeSupply := true }
      ∧ t.hc = { cfg := s.hc.cfg, changeTime := s.time, causeSupply := true }
      ∧ t.tbc.pub.mode = .park ∧ t.tbc.pub.verified = false ∧ t.tbc.pub.present = false
      ∧ t.tbc.pub.pCmd = s.pc.limits.pTrlMax ∧ t.tbc.pub.supp = .vented ∧ t.tbc.pub.time = s.time
      ∧ t.tbc = { curve := s.tbc.curve, pBrakeOn := s.tbc.pBrakeOn, pPre := s.tbc.pPre, pSafe := s.tbc.pSafe
                  cur := t.tbc.pub, pub := t.tbc.pub }
      ∧ (t.ft[fSupplyLow]).state = .active ∧ (∀ i : Fin 47, i ≠ fSupplyLow → t.ft[i] = s.ft[i])
      ∧ (let x := s.mu.snapshot.entries[roleSupply]
        t.lp.notices = (offerAll (raisedNote s fSupplyLow (if x.present = true ∧ x.valid = true then x.value.toNat else 0)
          ++ [noticeOf s .windowChanged 1 .sc t.sc.window.gHigh s.pc.limits.rMax]) s.lp).notices)

/-- CFG_LIMITS replaces the limit set whole in CONFIG with the lock clear and every field in its range; with the lock set
it is refused with REFUSED_LOCKED, and with a field out of range with REFUSED_RANGE. LOCK_LIMITS sets the lock on a
consistent set and returns the lock as it was with the eight fields (R29, R30, R31). -/
def Obligations.LimitsAreReplacedWholeAndLocked : Prop :=
  (∀ (f : Request) (s : State), InConfig s → f.len = 12 →
    let l : LimitSet := ⟨f.u8 0, f.u8 1, f.u8 2, f.u8 3, f.u16 4, f.u16 6, f.u16 8, f.u16 10⟩
    let inRanges := (1 ≤ l.gMaxRoad ∧ l.gMaxRoad ≤ 12) ∧ (1 ≤ l.gMaxUnverified ∧ l.gMaxUnverified ≤ 12)
      ∧ (1 ≤ l.gMaxField ∧ l.gMaxField ≤ 12) ∧ (1 ≤ l.rMax ∧ l.rMax ≤ 12) ∧ l.pTrlMax ≤ 1500
      ∧ l.pHitchUpperHard ≤ 1000 ∧ l.vShuttleMax ≤ 20000 ∧ (1000 ≤ l.nEngineMax ∧ l.nEngineMax ≤ 4000)
    (s.pc.lock = true → Answers (.cfgLimits f) s 10 f .refusedLocked [] s) ∧
    (s.pc.lock = false → ¬inRanges → Answers (.cfgLimits f) s 10 f .refusedRange [] s) ∧
    (s.pc.lock = false → inRanges →
      Answers (.cfgLimits f) s 10 f .ok [] { s with pc := { s.pc with limits := l } })) ∧
  (∀ (f : Request) (s : State), Ready s → f.len = 0 →
    let l := s.pc.limits
    let consistent := l.gMaxUnverified ≤ l.gMaxRoad ∧ l.gMaxField ≤ l.gMaxRoad
    (consistent →
      Answers (.lockLimits f) s 11 f .ok
        (beBool s.pc.lock ++ be8 l.gMaxRoad ++ be8 l.gMaxUnverified ++ be8 l.gMaxField ++ be8 l.rMax ++ be16 l.pTrlMax
          ++ be16 l.pHitchUpperHard ++ be16 l.vShuttleMax ++ be16 l.nEngineMax)
        { s with pc := { s.pc with lock := true } }) ∧
    (¬consistent → Answers (.lockLimits f) s 11 f .refusedCondition [1] s))

/-! ### Measurement and engine requests (R39 to R75) -/

/-- CFG_SCAN_STEP and CFG_ROLE store what they carry. A role that the step table no longer carries loses its count of
invalid runs and an ACTIVE SENSOR_RANGE of it ends; every other role and every other entry stays. CFG_DRAFT and
CFG_SPEED_INPUT are applied whole: windows lie within the converter's range with their low bound below their high bound, and
only RADAR may be absent. Each is refused with REFUSED_RANGE for a field out of its range (R28, R39, R49, R57, R59, R61). It
rests on the model's own choices of log entries 17 and 19. -/
def Obligations.MeasurementSettingsAreStored : Prop :=
  (∀ (f : Request) (s : State), InConfig s → f.len = 6 →
    let steps := s.mu.steps.setIfInBounds (f.u8 0) ⟨decide (f.u8 1 = 1), f.u8 2, f.u8 3⟩
    let inRanges := f.u8 0 ≤ 15 ∧ f.u8 1 ≤ 1 ∧ f.u8 2 ≤ 15 ∧ f.u8 3 ≤ 16 ∧ f.u8 4 ≤ 7 ∧ f.u8 5 ≤ 2
    (¬inRanges → Answers (.cfgScanStep f) s 12 f .refusedRange [] s) ∧
    (inRanges → ∃ t, exec (.cfgScanStep f) s = .next t ∧ Answered t 12 f.tag .ok []
      ∧ t = { s with lp := t.lp, mu := t.mu, ft := t.ft }
      ∧ t.mu = { s.mu with
          steps := steps, muxDelay := f.u8 4
          scanMode := if f.u8 5 = 0 then .continuous else if f.u8 5 = 1 then .single else .track
          mem := t.mu.mem }
      ∧ (∀ r : Fin 16, roleAssigned steps r.val = true →
          t.mu.mem[r] = s.mu.mem[r] ∧ t.ft[fSensorRange r] = s.ft[fSensorRange r])
      ∧ (∀ r : Fin 16, roleAssigned steps r.val = false →
          t.mu.mem[r] = { s.mu.mem[r] with invalid := 0 } ∧
          t.ft[fSensorRange r] =
            if (s.ft[fSensorRange r]).state = .active then
              { s.ft[fSensorRange r] with state := .latched, last := s.time }
            else s.ft[fSensorRange r])
      ∧ (∀ i : Fin 47, i.val < 2 ∨ 17 < i.val → t.ft[i] = s.ft[i]))) ∧
  (∀ (f : Request) (s : State), InConfig s → f.len = 5 →
    (15 < f.u8 0 ∨ 4095 < f.u16 1 → Answers (.cfgRole f) s 13 f .refusedRange [] s) ∧
    (f.u8 0 ≤ 15 → f.u16 1 ≤ 4095 →
      Answers (.cfgRole f) s 13 f .ok []
        { s with mu := { s.mu with scales := s.mu.scales.setIfInBounds (f.u8 0) ⟨f.u16 1, f.s16 3⟩ } })) ∧
  (∀ (f : Request) (s : State), InConfig s → f.len = 14 →
    let windowOk (lo hi : Int) := -4096 ≤ lo ∧ lo < hi ∧ hi ≤ 4095
    let inRanges := (f.u8 0 = 1 ∨ f.u8 0 = 2 ∨ f.u8 0 = 4) ∧ f.u8 1 ≤ 1 ∧ f.u8 2 ≤ 3
      ∧ windowOk (f.s16 3) (f.s16 5) ∧ windowOk (f.s16 7) (f.s16 9) ∧ f.u16 11 ≤ 6000 ∧ 1 ≤ f.u8 13
    (¬inRanges → Answers (.cfgDraft f) s 14 f .refusedRange [] s) ∧
    (inRanges → Answers (.cfgDraft f) s 14 f .ok []
      { s with mu := { s.mu with cfg :=
        ⟨f.u8 0, decide (f.u8 1 = 1), f.u8 2, f.s16 3, f.s16 5, f.s16 7, f.s16 9, f.u16 11, f.u8 13⟩ } })) ∧
  (∀ (f : Request) (s : State), InConfig s → f.len = 5 →
    let inRanges := f.u8 0 ≤ 3 ∧ 1 ≤ f.u8 1 ∧ 1 ≤ f.u16 2 ∧ f.u8 4 ≤ 1 ∧ (f.u8 4 = 1 ∨ f.u8 0 = 3)
    (¬inRanges → Answers (.cfgSpeedInput f) s 15 f .refusedRange [] s) ∧
    (∀ i : Fin 4, f.u8 0 = i.val → inRanges → Answers (.cfgSpeedInput f) s 15 f .ok []
      { s with mu := { s.mu with pulse := s.mu.pulse.set i ({ s.mu.pulse[i] with
        calibrated := true, ppr := f.u8 1, k := f.u16 2, present := decide (f.u8 4 = 1) }) } }))

/-- SCAN_START clears a pending stop, aborts a run in progress and starts one from the first enabled step with a copy
of the table, or completes it at once where no step is enabled; SCAN_STOP leaves the run and marks the stop pending.
Their replies tell whether a run was in progress (R50, R52, R53, R55, R56). It rests on the model's own choices of
log entries 17 and 33. -/
def Obligations.ScanStartAndStopRunTheSequencer : Prop :=
  (∀ (f : Request) (s : State), InConfig s → f.len = 0 →
    let body := beBool s.mu.run.isSome ++ be16 ((s.mu.runCounter + 1) % 65536)
    (∀ i : Fin 16, (s.mu.steps[i]).enabled = true → (∀ j : Fin 16, j < i → (s.mu.steps[j]).enabled = false) →
      Answers (.scanStart f) s 16 f .ok body { s with mu := { s.mu with
        stopPending := false
        run := some ⟨s.mu.steps, s.mu.muxDelay, i, decide (s.mu.muxDelay = 0), s.time, .replicate 16 none⟩ } }) ∧
    ((∀ j : Fin 16, (s.mu.steps[j]).enabled = false) →
      ∃ t, exec (.scanStart f) s = .next t ∧ Answered t 16 f.tag .ok body ∧ t.mu.run = none
        ∧ t.mu.stopPending = false ∧ t.mu.snapshot = ⟨(s.mu.runCounter + 1) % 65536, s.time, .replicate 16 {}⟩
        ∧ t = { s with lp := t.lp, mu := t.mu, ft := t.ft })) ∧
  (∀ (f : Request) (s : State), InConfig s → f.len = 0 →
    Answers (.scanStop f) s 17 f .ok (beBool s.mu.run.isSome)
      { s with mu := { s.mu with stopPending := s.mu.run.isSome || s.mu.stopPending } })

/-- ENGINE_INFO clamps its three values, stores them with the part time, restarts the staleness timer in RUN and ends
an ENGINE_INFO_STALE that stands; its reply carries the values applied. ENGINE_INFO_STALE_EXPIRY marks the record
stale and reports it (R73, R74, R75). It rests on the model's own choices of log entry 6. -/
def Obligations.EngineRecordIsStoredAndAges : Prop :=
  (∀ (f : Request) (s : State), Ready s → f.len = 6 →
    let speed := min 4000 (f.u16 0)
    let torque := min 1000 (f.u16 2)
    let oil := max (-40) (min 150 (f.s16 4))
    let v : State := { s with me := { s.me with
      engine := ⟨speed, torque, oil, s.time, false⟩
      engineStale := if s.inRun then some (s.time + 500000) else none } }
    Answers (.engineInfo f) s 18 f
      (if speed = f.u16 0 ∧ torque = f.u16 2 ∧ oil = f.s16 4 then .ok else .okClamped)
      (be16 speed ++ be16 torque ++ beInt oil) (if s.me.engine.stale then ftEnd fEngineStale v else v)) ∧
  (∀ s : State, s.undelivered = 0 → s.inRun = true → s.due s.me.engineStale = true →
    exec .engineInfoStaleExpiry s = .next (ftStart fEngineStale 0
      { s with me := { s.me with engine := { s.me.engine with stale := true }, engineStale := none } }))

/-! ### Valve outputs and the supply (R76 to R92) -/

/-- A write of a command clamps it to its channel's range, stores it, and forms the drive current from the
characteristic: no current for a command of 0, and else the offset and gain of a pressure valve cut at I_max, a point of
the line from I_min to I_max of a hitch valve, or I_on. In CONFIG, forced, uncharacterised, or for FRONT_RELEASE with the
supply LOW the current is 0. Nothing else changes (R77, R79, R80, R81, R82). -/
def Obligations.WrittenCommandsDriveTheirCurrent : Prop :=
  (∀ (i : Fin 14) (cmd : Nat) (s : State),
    let held := s.pc.part = .config ∨ (s.vo.chan[i]).forced = true ∨ (i = chFront ∧ s.vo.supply = .low)
    let top := if i = 9 ∨ i = 10 then 1000 else if i = 11 ∨ i = 13 then 1 else if i = 12 then 2000 else 250
    let p := min cmd top
    let t := writeChan i cmd s
    let ch : Chan := { s.vo.chan[i] with command := p, drive := (t.vo.chan[i]).drive }
    t = { s with vo := { s.vo with chan := s.vo.chan.set i ch } } ∧
    (held ∨ (s.vo.chan[i]).charac = none ∨ p = 0 → (t.vo.chan[i]).drive = 0) ∧
    (∀ k : Charac, (s.vo.chan[i]).charac = some k → ¬held → 0 < p → (t.vo.chan[i]).drive =
      if i = 9 ∨ i = 10 then k.a + p * (k.b - k.a) / 1000
      else if i = 11 ∨ i = 13 then k.a else min (k.a + p * k.b / 100) k.c)) ∧
  (∀ (k : Charac) (cmd : Nat), k.a ≤ k.b → 0 < cmd → cmd ≤ 1000 →
    k.a ≤ characCurrent .hitch k cmd ∧ characCurrent .hitch k cmd ≤ k.b)

/-- A diagnostic sample records the current and judges its own channel. Driven at 200 mA or more with less than a
quarter of it measured, for 50 ms, it is forced as OPEN; while forced, 50 ms of HEALTHY make an ACTIVE entry LATCHED
and 50 ms of a fault make a LATCHED one ACTIVE again. OVERCURRENT_TRIP forces its driven channel at once as SHORT. A
channel that is forced drives no current, its entry is ACTIVE and its owner is told. A clutch fault empties the shift queue; in a
gear, or with a shift waiting, running or in recovery, the SC goes to ABORTING, neutral, every clutch at 0 for the dump time, and
a timeout entry in hand is LATCHED, its notice after the fault's; in neutral and in ABORTING the queue is all that changes. A
RAISE or LOWER fault sets the stop flag and stops the hitch with both commands and both channels at 0, and a hitch
already STOPPED keeps its commands; a FRONT_RELEASE fault forces the front drive, its channel at 0; a TRL_CTRL or TRL_SUPP fault
aborts a line check and clears verified, and TRL_CTRL discards the deviation hold time. The notices of each are posted in the
order given (R83, R84, R85, R86, R87, R130, R132, R149, R175, R192, R193, R194). It rests on the model's own choices of log
entries 4, 6, 20, 25 and 38. -/
def Obligations.DiagnosticsAndTripsForceChannels : Prop :=
  ∀ (c : Channel) (cur : Word16) (s : State), s.undelivered = 0 → KnownTimeout s → s.inRun = true →
    let i := chanIdx c
    let ch := s.vo.chan[i]
    let forces (go : Result) (x : Chan) (detail : Nat) := ∃ t, go = .next t
      ∧ t.vo.chan[i] = { x with
          forced := true, drive := 0, openHold := none, offHold := none, command := (t.vo.chan[i]).command }
      ∧ (t.ft[fOutput i]).state = .active
      ∧ ((s.ft[fOutput i]).state ≠ .active → (t.ft[fOutput i]).detail = BitVec.ofNat 16 detail)
      ∧ (∀ j : Fin 14, (t.vo.chan[j]).charac = (s.vo.chan[j]).charac ∧
          (j ≠ i → (t.vo.chan[j]).forced = (s.vo.chan[j]).forced))
      ∧ (i.val < 9 →
          let quiet := s.sc.pub.state = .aborting ∨ (s.sc.pub.state = .idle ∧ s.sc.pub.dir = .n)
          let idle := s.sc.pub.state = .idle
          t.hc = s.hc ∧ (∀ j : Fin 14, j = chRaise ∨ j = chLower → t.vo.chan[j] = s.vo.chan[j]) ∧
          (quiet → t.sc = { s.sc with queue := [] } ∧ t.fdm = s.fdm ∧ t.tbc = s.tbc
            ∧ (t.vo.chan[i]).command = x.command ∧ (∀ j : Fin 14, j ≠ i → t.vo.chan[j] = s.vo.chan[j])
            ∧ (∀ j : Fin 47, j ≠ fOutput i → t.ft[j] = s.ft[j])
            ∧ t.lp = offerAll (raisedNote s (fOutput i) detail) s.lp) ∧
          (¬quiet →
            t.sc = { s.sc with
                queue := [], shift := none, modDue := none, supplyWait := none, brakeWait := none
                dump := some (s.time + 100000), pub := { time := s.time, state := .aborting }
                window := t.sc.window, timeoutFault := if idle then s.sc.timeoutFault else none }
              ∧ (∀ k : Fin 9, (t.vo.chan[clutchChan k]).command = 0)
              ∧ (∀ j : Fin 47, j ≠ fOutput i → t.ft[j] =
                  if ¬idle ∧ s.sc.timeoutFault = some j ∧ (s.ft[j]).state = .active then
                    { s.ft[j] with state := .latched, last := s.time } else s.ft[j])
              ∧ ShiftEvent (raisedNote s (fOutput i) detail ++ if idle then [] else timeoutNote s) s t))
      ∧ (i = chRaise ∨ i = chLower →
          let told : Hitch := { s.hc with
            raiseForced := s.hc.raiseForced || decide (i = chRaise)
            lowerForced := s.hc.lowerForced || decide (i = chLower), stopOutput := true }
          t.sc = s.sc ∧ t.tbc = s.tbc ∧ t.fdm = s.fdm ∧ (∀ j : Fin 47, j ≠ fOutput i → t.ft[j] = s.ft[j]) ∧
          (s.hc.state = .stopped → t.hc = told ∧ (t.vo.chan[i]).command = x.command
            ∧ (∀ j : Fin 14, j ≠ i → t.vo.chan[j] = s.vo.chan[j])
            ∧ t.lp = offerAll (raisedNote s (fOutput i) detail) s.lp) ∧
          (s.hc.state ≠ .stopped →
            t.hc = { told with
                prev := s.hc.state, state := .stopped, changeTime := s.time, ret := .lockedOut
                raiseCmd := 0, lowerCmd := 0
                shockTimer := if s.hc.state = .shock then none else s.hc.shockTimer
                stall := if s.hc.state = .control then none else s.hc.stall
                reached := s.hc.reached && decide (s.hc.state ≠ .transport) }
              ∧ (t.vo.chan[chRaise]).command = 0 ∧ (t.vo.chan[chLower]).command = 0
              ∧ (∀ j : Fin 14, j ≠ chRaise → j ≠ chLower → t.vo.chan[j] = s.vo.chan[j])
              ∧ t.lp = offerAll (raisedNote s (fOutput i) detail
                  ++ [noticeOf s .hitchState 0 .hc 6 s.hc.state.code]) s.lp))
      ∧ (i = chFront → t.sc = s.sc ∧ t.hc = s.hc ∧ t.tbc = s.tbc ∧ (∀ j : Fin 14, j ≠ i → t.vo.chan[j] = s.vo.chan[j]) ∧
          (∀ j : Fin 47, j ≠ fOutput i → t.ft[j] = s.ft[j]) ∧
          (s.fdm.state = .forced → t.fdm = { s.fdm with causeOutput := true } ∧ (t.vo.chan[i]).command = x.command
            ∧ t.lp = offerAll (raisedNote s (fOutput i) detail) s.lp) ∧
          (s.fdm.state ≠ .forced →
            t.fdm = { s.fdm with
                causeOutput := true, prev := s.fdm.state, state := .forced, changeTime := s.time
                waitStart := 0, wait := none }
              ∧ (t.vo.chan[i]).command = 0
              ∧ t.lp = offerAll (raisedNote s (fOutput i) detail
                  ++ [noticeOf s .frontChanged 0 .fdm 3 s.fdm.state.code]) s.lp))
      ∧ (i = chCtrl ∨ i = chSupp → BrakeShows { checkAborted s.tbc.cur with verified := false } s t
          ∧ t.tbc.stage = (if s.tbc.cur.check = .idle then s.tbc.stage else none)
          ∧ (i = chCtrl → t.tbc.devHold = none) ∧ t.hc = s.hc
          ∧ Posts (raisedNote s (fOutput i) detail
              ++ if s.tbc.cur.check = .idle then [] else [noticeOf s .lineCheckResult 1 .tbc 2 0]) s t)
      ∧ KeepsMeasures s t
    (∀ off : OffState, s.due ch.diag = true →
      let seen := min cur.toNat 2000
      let sampled : Chan := { ch with measured := seen, diag := ch.diag.map (· + 1000) }
      let open_ := 200 ≤ ch.drive ∧ 4 * seen < ch.drive
      let lasts (h : Option Nat) := h.getD s.time + 50000 ≤ s.time
      let leaves (x : Chan) : State := { s with vo := { s.vo with chan := s.vo.chan.set i x } }
      let go := exec (.diagnosticSample c cur off) s
      (ch.forced = false → ¬open_ → go = .next (leaves { sampled with openHold := none })) ∧
      (ch.forced = false → open_ → ¬lasts ch.openHold →
        go = .next (leaves { sampled with openHold := some (ch.openHold.getD s.time) })) ∧
      (ch.forced = false → open_ → lasts ch.openHold → forces go sampled 0) ∧
      (ch.forced = true → (s.ft[fOutput i]).state = .active →
        (off ≠ .healthy → go = .next (leaves { sampled with offHold := none })) ∧
        (off = .healthy → ¬lasts ch.offHold →
          go = .next (leaves { sampled with offHold := some (ch.offHold.getD s.time) })) ∧
        (off = .healthy → lasts ch.offHold →
          go = .next (ftEnd (fOutput i) (leaves { sampled with offHold := none })))) ∧
      (ch.forced = true → (s.ft[fOutput i]).state = .latched →
        (off = .healthy → go = .next (leaves { sampled with offHold := none })) ∧
        (off ≠ .healthy → ¬lasts ch.offHold →
          go = .next (leaves { sampled with offHold := some (ch.offHold.getD s.time) })) ∧
        (off ≠ .healthy → lasts ch.offHold →
          go = .next (ftStart (fOutput i) (if off = .openLoad then 0 else 1)
            (leaves { sampled with offHold := none }))))) ∧
    (0 < ch.drive → 2400 < cur.toNat → forces (exec (.overcurrentTrip c cur) s) ch 1)

/-! ### The gear tables (R93 to R104) and the settings of the SC and the TBC -/

/-- CFG_GEAR replaces one entry of the gear table whole, or is refused with REFUSED_RANGE and leaves it (R93, R94). -/
def Obligations.GearEntriesAreReplacedWhole : Prop :=
  ∀ (f : Request) (s : State), InConfig s → f.len = 7 →
    let inRanges := 1 ≤ f.u8 0 ∧ f.u8 0 ≤ 12 ∧ f.u8 1 ≤ 1 ∧ f.u8 2 ≤ 3 ∧ f.u8 3 ≤ 2 ∧ 1000 ≤ f.u16 4 ∧ f.u16 4 ≤ 30000
      ∧ 1 ≤ f.u8 6 ∧ f.u8 6 ≤ 250
    (¬inRanges → Answers (.cfgGear f) s 21 f .refusedRange [] s) ∧
    (inRanges → ∀ g : Fin 12, f.u8 0 = g.val + 1 → Answers (.cfgGear f) s 21 f .ok []
      { s with sc := { s.sc with gears := s.sc.gears.set g (⟨true, decide (f.u8 1 = 1), Fin.ofNat 4 (f.u8 2),
        Fin.ofNat 3 (f.u8 3), f.u16 4, f.u8 6⟩) } })

/-- CFG_PROFILE_STEP in CONFIG with WRITE replaces the step below the step count or appends one at it, with TRUNCATE it
keeps the steps below its number; a field out of range, a gap, a duration of 0 on a FILLED or SYNCED step, or a pressure
on HOLD or DUMP is refused. The reply is the step count (R101, R102, R104). -/
def Obligations.ProfileStepsAreWrittenAndTruncated : Prop :=
  ∀ (f : Request) (s : State), Ready s → f.len = 15 →
    (∀ c, c = .cfgProfileStepWrite f ∨ c = .cfgProfileStepTruncate f →
      (s.inRun = true → Answers c s 22 f .refusedState [] s) ∧
      (s.inRun = false → 7 < f.u8 0 ∨ 11 < f.u8 1 ∨ 1 < f.u8 2 → Answers c s 22 f .refusedRange [] s)) ∧
    ∀ p : Fin 8, s.inRun = false → f.u8 0 = p.val → f.u8 1 ≤ 11 →
      let steps := s.sc.profiles[p]
      let n := f.u8 1
      let act (k : Nat) : Action := ⟨[ActionType.hold, .step, .ramp, .fill, .dump].getD (f.u8 k) .hold, f.u8 (k + 1)⟩
      let st : ProfileStep := ⟨[Phase.fill, .torque, .inertia, .lock].getD (f.u8 3) .fill,
        [EndCond.time, .filled, .synced].getD (f.u8 4) .time, f.u16 5, act 7, act 9, act 11, act 13⟩
      let inRanges := n ≤ steps.length ∧ f.u8 3 ≤ 3 ∧ f.u8 4 ≤ 2 ∧ f.u16 5 ≤ 2000 ∧ (f.u8 4 ≠ 0 → 1 ≤ f.u16 5)
        ∧ ∀ k ∈ [7, 9, 11, 13],
            f.u8 k ≤ 4 ∧ f.u8 (k + 1) ≤ 250 ∧ (f.u8 k = 0 ∨ f.u8 k = 4 → f.u8 (k + 1) = 0)
      let put := if n < steps.length then steps.set n st else steps ++ [st]
      let leaves (l : List ProfileStep) : State := { s with sc := { s.sc with profiles := s.sc.profiles.set p l } }
      (f.u8 2 = 0 → inRanges → Answers (.cfgProfileStepWrite f) s 22 f .ok (be8 put.length) (leaves put)) ∧
      (f.u8 2 = 0 → ¬inRanges → Answers (.cfgProfileStepWrite f) s 22 f .refusedRange [] s) ∧
      (f.u8 2 = 1 → n ≤ steps.length →
        Answers (.cfgProfileStepTruncate f) s 22 f .ok (be8 n) (leaves (steps.take n))) ∧
      (f.u8 2 = 1 → steps.length < n → Answers (.cfgProfileStepTruncate f) s 22 f .refusedRange [] s)

/-- CFG_OUTPUT takes a characteristic whose parameters lie in the ranges and relations of its channel's form and drives
nothing in CONFIG; CFG_SUPPLY takes P_low below P_ok; CFG_PROFILE_MAP, CFG_SHIFT, CFG_TRAILER and CFG_CURVE_POINT store what
they carry, each field in its range; a curve point discards every point above it and may leave no gap. Anything else is refused
with REFUSED_RANGE (R77, R78, R89, R100, R112, R179, R180). -/
def Obligations.OutputShiftAndTrailerSettings : Prop :=
  (∀ (f : Request) (s : State), InConfig s → f.len = 7 →
    let a := f.u16 1
    let b := f.u16 3
    let c := f.u16 5
    (13 < f.u8 0 → Answers (.cfgOutput f) s 19 f .refusedRange [] s) ∧
    ∀ i : Fin 14, f.u8 0 = i.val →
      let inRanges :=
        if i = 9 ∨ i = 10 then a ≤ 2000 ∧ 1 ≤ b ∧ b ≤ 2000 ∧ c = 0 ∧ a ≤ b
        else if i = 11 ∨ i = 13 then 1 ≤ a ∧ a ≤ 2000 ∧ b = 0 ∧ c = 0
        else a ≤ 2000 ∧ b ≤ 2000 ∧ 1 ≤ c ∧ c ≤ 2000 ∧ a ≤ c
      (¬inRanges → Answers (.cfgOutput f) s 19 f .refusedRange [] s) ∧
      (inRanges → Answers (.cfgOutput f) s 19 f .ok [] { s with vo := { s.vo with
        chan := s.vo.chan.set i ({ s.vo.chan[i] with charac := some ⟨a, b, c⟩, drive := 0 }) } })) ∧
  (∀ (f : Request) (s : State), InConfig s → f.len = 4 →
    let inRanges := f.u16 0 ≤ 300 ∧ f.u16 2 ≤ 300 ∧ f.u16 0 < f.u16 2
    (¬inRanges → Answers (.cfgSupply f) s 20 f .refusedRange [] s) ∧
    (inRanges → Answers (.cfgSupply f) s 20 f .ok []
      { s with vo := { s.vo with pLow := f.u16 0, pOk := f.u16 2 } })) ∧
  (∀ (f : Request) (s : State), InConfig s → f.len = 2 →
    (6 < f.u8 0 ∨ 7 < f.u8 1 → Answers (.cfgProfileMap f) s 23 f .refusedRange [] s) ∧
    (f.u8 0 ≤ 6 → f.u8 1 ≤ 7 → Answers (.cfgProfileMap f) s 23 f .ok []
      { s with sc := { s.sc with map := s.sc.map.set (Fin.ofNat 7 (f.u8 0)) (some (Fin.ofNat 8 (f.u8 1))) } })) ∧
  (∀ (f : Request) (s : State), InConfig s → f.len = 5 →
    let inRanges := f.u16 0 ≤ 500 ∧ (1 ≤ f.u8 2 ∧ f.u8 2 ≤ 250) ∧ (1 ≤ f.u16 3 ∧ f.u16 3 ≤ 500)
    (¬inRanges → Answers (.cfgShift f) s 24 f .refusedRange [] s) ∧
    (inRanges → Answers (.cfgShift f) s 24 f .ok []
      { s with sc := { s.sc with kLoad := f.u16 0, pFillDetect := f.u8 2, wSync := f.u16 3 } })) ∧
  (∀ (f : Request) (s : State), InConfig s → f.len = 6 →
    let inRanges := (1 ≤ f.u16 0 ∧ f.u16 0 ≤ 2000) ∧ f.u16 2 ≤ 300 ∧ f.u16 4 ≤ 1500
    (¬inRanges → Answers (.cfgTrailer f) s 35 f .refusedRange [] s) ∧
    (inRanges → Answers (.cfgTrailer f) s 35 f .ok []
      { s with tbc := { s.tbc with pBrakeOn := f.u16 0, pPre := f.u16 2, pSafe := f.u16 4 } })) ∧
  (∀ (f : Request) (s : State), InConfig s → f.len = 5 →
    let n := f.u8 0
    let inRanges := 1 ≤ n ∧ n ≤ 8 ∧ n ≤ s.tbc.curve.length + 1 ∧ f.u16 1 ≤ 2000 ∧ f.u16 3 ≤ 2000
    (¬inRanges → Answers (.cfgCurvePoint f) s 36 f .refusedRange [] s) ∧
    (inRanges → Answers (.cfgCurvePoint f) s 36 f .ok (be8 n)
      { s with tbc := { s.tbc with curve := s.tbc.curve.take (n - 1) ++ [(f.u16 1, f.u16 3)] } }))

/-! ### Shift requests and execution (R113 to R136) -/

/-- The base position of a SHIFT or SHUTTLE is the tail entry's target, with an empty queue the target of the shift in
STEPPING or the previous gear of the one in RECOVERING, and else the position of the driveline record. The raw target comes
from the form and the base position, is resolved against the cap of its direction, and is merged when it is the base
position, refused when the queue is full, and else appended and answered OK_QUEUED or OK_CLAMPED. With the SC IDLE the entry
enters PENDING: with the supply LOW it waits there with its supply wait running, an upshift under braking with its brake
wait; and with neither it starts at once, as ShiftBegins says, pre-brake following the record, the reply showing a queue of
1 and the queue empty afterwards; a SHIFT that engine speed moves to a faster gear posts SHIFT_CLAMPED. A gear is resolved
to the highest enabled gear at or below it and its cap, if there is one (R96, R98, R99, R114, R115, R116, R118, R119, R120,
R121, R124, R189). It rests on the model's own choices of log entry 13. -/
def Obligations.ShiftsAreQueuedClampedOrMerged : Prop :=
  (∀ (gs : Vector GearEntry 12) (cap g : Nat),
    let open_ (h : Nat) := 1 ≤ h ∧ h ≤ g ∧ h ≤ cap ∧ gearEnabled gs h = true
    (∀ i : Fin 12, gearAt gs (i.val + 1) = gs[i] ∧ gearEnabled gs (i.val + 1) = ((gs[i]).isSet && (gs[i]).enabled)) ∧
    (∀ h, 12 < h → gearEnabled gs h = false) ∧
    (∀ h, resolveGear gs cap g = some h ↔ open_ h ∧ ∀ j, open_ j → j ≤ h) ∧
    (resolveGear gs cap g = none ↔ ∀ h, ¬open_ h)) ∧
  (∀ (s : State) (q : List ShiftEntry) (e : ShiftEntry), s.sc.queue = q ++ [e] → basePosition s = (e.dir, e.gear)) ∧
  (∀ s : State, s.sc.queue = [] →
    (∀ run, s.sc.pub.state = .stepping → s.sc.shift = some run → basePosition s = (run.tgtDir, run.tgtGear)) ∧
    (∀ run, s.sc.pub.state = .recovering → s.sc.shift = some run → basePosition s = (run.prevDir, run.prevGear)) ∧
    (s.sc.pub.state ≠ .stepping → s.sc.pub.state ≠ .recovering →
      basePosition s = (s.sc.pub.dir, s.sc.pub.gear))) ∧
  (∀ (f : Request) (s : State), InRunUp s → f.len = 3 → blockingEntry s.ft .gearbox = none →
      let base := basePosition s
      let v := f.s8 1
      let raw := if f.u8 0 = 0 then v.toNat else ((base.2 : Int) + v).toNat
      let d : Dir := if base.1 ≠ .n then base.1 else if f.u8 2 = 0 then .f else .r
      let formed := f.u8 2 ≤ 1 ∧ ((f.u8 0 = 0 ∧ 1 ≤ v ∧ v ≤ 12)
        ∨ (f.u8 0 = 1 ∧ -3 ≤ v ∧ v ≤ 3 ∧ base.1 ≠ .n ∧ 1 ≤ (base.2 : Int) + v ∧ (base.2 : Int) + v ≤ 12))
      let cap := if d = .r then s.sc.window.reverseCap else s.sc.window.gHigh
      formed → ¬(s.sc.pub.above = true ∧ d = .f ∧ base.1 = .f ∧ base.2 < raw) →
      ∀ g, resolveGear s.sc.gears cap raw = some g →
        let body (n : Nat) := be8 raw ++ be8 g ++ be8 d.code ++ be8 n
        let entry : ShiftEntry := ⟨.gear, g, d, s.time⟩
        let status : Status := if g = raw then .okQueued else .okClamped
        let n := s.sc.queue.length
        let brakes := d = base.1 ∧ base.2 < g ∧ s.tbc.pub.braking = true
        let fits (g : Nat) := s.me.pub.nOut * (gearAt s.sc.gears g).ratio / 1000 ≤ s.pc.limits.nEngineMax
        ((d, g) = base → Answers (.shift f) s 25 f .okMerged (body n) s) ∧
        ((d, g) ≠ base → 4 ≤ n → Answers (.shift f) s 25 f .refusedQueueFull [] s) ∧
        ((d, g) ≠ base → n < 4 → s.sc.pub.state ≠ .idle → Answers (.shift f) s 25 f status (body (n + 1))
          { s with sc := { s.sc with queue := s.sc.queue ++ [entry] } }) ∧
        ((d, g) ≠ base → s.sc.pub.state = .idle → s.sc.queue = [] → s.vo.supply = .low →
          ∃ t, exec (.shift f) s = .next t ∧ Answered t 25 f.tag status (body 1) ∧ t.sc.queue = [entry]
            ∧ t.sc.pub.state = .pending ∧ t.sc.pub.kind = .none ∧ t.sc.pub.tgtDir = d ∧ t.sc.pub.tgtGear = g
            ∧ t.sc.pub.dir = s.sc.pub.dir ∧ t.sc.pub.gear = s.sc.pub.gear
            ∧ t.sc.supplyWait = some (s.time + 1000000) ∧ t.hc = s.hc ∧ KeepsMeasures s t) ∧
        (s.tbc.cur = s.tbc.pub → (d, g) ≠ base → s.sc.pub.state = .idle → s.sc.queue = [] → s.vo.supply = .normal →
          (brakes →
            ∃ t, exec (.shift f) s = .next t ∧ Answered t 25 f.tag status (body 1) ∧ t.sc.queue = [entry]
              ∧ t.sc.pub.state = .pending ∧ t.sc.pub.tgtDir = d ∧ t.sc.pub.tgtGear = g
              ∧ t.sc.supplyWait = none ∧ t.sc.brakeWait = some (s.time + 3000000) ∧ t.hc = s.hc
              ∧ KeepsMeasures s t) ∧
          ∀ h : Fin 13, ¬brakes →
            (if d = base.1 ∧ g < base.2 then
              fits h ∧ (h.val = g ∨ (¬fits g ∧ g < h.val ∧ h.val ≤ cap ∧ h.val < base.2
                ∧ gearEnabled s.sc.gears h = true
                ∧ ∀ j : Fin 13, g < j.val → j < h → gearEnabled s.sc.gears j = true → ¬fits j))
            else h.val = g) →
            let k := classify s.sc.gears base.1 base.2 d h
            let u := senseOf k base.2 h
            ∀ p st, FirstStepRuns s k u d h p st →
            ∃ t, exec (.shift f) s = .next t ∧ Answered t 25 f.tag status (body 1) ∧ t.sc.queue = []
              ∧ ShiftBegins s k u d h p st t ∧ PreBrakeFollows s t ∧ t.hc = s.hc ∧ KeepsMeasures s t
              ∧ (BrakeQuiet s → ¬Qualifies s.tbc.cur t.sc.pub → t.lp.notices =
                  (offerAll (if h.val = g then [] else [noticeOf s .shiftClamped 1 .sc g h]) s.lp).notices))) ∧
  (∀ (f : Request) (s : State), InRunUp s → f.len = 0 → blockingEntry s.ft .gearbox = none →
      let base := basePosition s
      let d : Dir := if base.1 = .f then .r else .f
      base.1 ≠ .n → s.me.pub.vR ≤ s.pc.limits.vShuttleMax →
      ∀ g, resolveGear s.sc.gears (if d = .r then s.sc.window.reverseCap else s.sc.window.gHigh) base.2 = some g →
        let body (n : Nat) := be8 base.2 ++ be8 g ++ be8 d.code ++ be8 n
        let entry : ShiftEntry := ⟨.shuttle, g, d, s.time⟩
        let status : Status := if g = base.2 then .okQueued else .okClamped
        let n := s.sc.queue.length
        (4 ≤ n → Answers (.shuttle f) s 26 f .refusedQueueFull [] s) ∧
        (n < 4 → s.sc.pub.state ≠ .idle → Answers (.shuttle f) s 26 f status (body (n + 1))
          { s with sc := { s.sc with queue := s.sc.queue ++ [entry] } }) ∧
        (s.sc.pub.state = .idle → s.sc.queue = [] → s.vo.supply = .low →
          ∃ t, exec (.shuttle f) s = .next t ∧ Answered t 26 f.tag status (body 1) ∧ t.sc.queue = [entry]
            ∧ t.sc.pub.state = .pending ∧ t.sc.pub.tgtDir = d ∧ t.sc.pub.tgtGear = g
            ∧ t.sc.pub.dir = base.1 ∧ t.sc.pub.gear = base.2
            ∧ t.sc.supplyWait = some (s.time + 1000000) ∧ t.hc = s.hc ∧ KeepsMeasures s t) ∧
        (s.sc.pub.state = .idle → s.sc.queue = [] → s.vo.supply = .normal →
          ∀ p st, FirstStepRuns s .shuttle .none d g p st →
          ∃ t, exec (.shuttle f) s = .next t ∧ Answered t 26 f.tag status (body 1) ∧ t.sc.queue = []
            ∧ ShiftBegins s .shuttle .none d g p st t ∧ PreBrakeFollows s t ∧ t.hc = s.hc ∧ KeepsMeasures s t))

/-- SHIFT and SHUTTLE are refused by the first check that fails: RESTORED_WAIT, a code or value out of range, a standing
GEARBOX fault by its number, a base without direction, a relative target outside 1..12, above_window, the shuttle speed,
and no enabled gear at or below the cap; a refused request changes nothing (R115, R199). -/
def Obligations.ShiftsAreRefusedInOrder : Prop :=
  (∀ (f : Request) (s : State), s.undelivered = 0 → s.inRun = true → s.lp.link = .restoredWait →
    (f.len = 3 → Answers (.shift f) s 25 f .refusedState [] s) ∧
    (f.len = 0 → Answers (.shuttle f) s 26 f .refusedState [] s)) ∧
  (∀ (f : Request) (s : State), InRunUp s → f.len = 3 →
    let base := basePosition s
    let v := f.s8 1
    let inRanges := f.u8 2 ≤ 1 ∧ ((f.u8 0 = 0 ∧ 1 ≤ v ∧ v ≤ 12) ∨ (f.u8 0 = 1 ∧ -3 ≤ v ∧ v ≤ 3))
    let raw := if f.u8 0 = 0 then v.toNat else ((base.2 : Int) + v).toNat
    let d : Dir := if base.1 ≠ .n then base.1 else if f.u8 2 = 0 then .f else .r
    let formed := f.u8 0 = 0 ∨ (base.1 ≠ .n ∧ 1 ≤ (base.2 : Int) + v ∧ (base.2 : Int) + v ≤ 12)
    let barred := s.sc.pub.above = true ∧ d = .f ∧ base.1 = .f ∧ base.2 < raw
    (¬inRanges → Answers (.shift f) s 25 f .refusedRange [] s) ∧
    (inRanges → ∀ i, blockingEntry s.ft .gearbox = some i →
      Answers (.shift f) s 25 f .refusedFault (be8 i.val) s) ∧
    (inRanges → blockingEntry s.ft .gearbox = none →
      (f.u8 0 = 1 → base.1 = .n → Answers (.shift f) s 25 f .refusedCondition [3] s) ∧
      (f.u8 0 = 1 → base.1 ≠ .n → ¬formed → Answers (.shift f) s 25 f .refusedRange [] s) ∧
      (formed → barred → Answers (.shift f) s 25 f .refusedCondition [1] s) ∧
      (formed → ¬barred →
        resolveGear s.sc.gears (if d = .r then s.sc.window.reverseCap else s.sc.window.gHigh) raw = none →
        Answers (.shift f) s 25 f .refusedCondition [4] s))) ∧
  (∀ (f : Request) (s : State), InRunUp s → f.len = 0 →
    let base := basePosition s
    (∀ i, blockingEntry s.ft .gearbox = some i → Answers (.shuttle f) s 26 f .refusedFault (be8 i.val) s) ∧
    (blockingEntry s.ft .gearbox = none → base.1 = .n → Answers (.shuttle f) s 26 f .refusedCondition [3] s) ∧
    (blockingEntry s.ft .gearbox = none → base.1 ≠ .n → s.pc.limits.vShuttleMax < s.me.pub.vR →
      Answers (.shuttle f) s 26 f .refusedCondition [2] s) ∧
    (blockingEntry s.ft .gearbox = none → base.1 ≠ .n → s.me.pub.vR ≤ s.pc.limits.vShuttleMax →
      resolveGear s.sc.gears (if base.1 = .f then s.sc.window.reverseCap else s.sc.window.gHigh) base.2 = none →
      Answers (.shuttle f) s 26 f .refusedCondition [4] s))

/-- NEUTRAL in RUN, with the link UP or RESTORED_WAIT, empties the queue and answers its action and the number of entries
removed: nothing more in neutral or ABORTING, a DISENGAGE from a locked gear with the supply NORMAL, which begins as
ShiftBegins says, and ABORTING from a locked gear with the supply LOW or from any shift waiting or in flight, whose timeout
fault ends with its notice. Pre-brake follows the record (R98, R99, R117, R120, R121, R124, R130, R189). It rests on the
model's own choices of log entries 13 and 38. -/
def Obligations.NeutralActsByShiftState : Prop :=
  ∀ (f : Request) (s : State), Ready s → f.len = 0 → s.inRun = true →
    let n := s.sc.queue.length
    let d := s.sc.pub
    (d.state = .aborting ∨ (d.state = .idle ∧ d.dir = .n) →
      Answers (.neutral f) s 27 f .ok (be8 0 ++ be8 n) { s with sc := { s.sc with queue := [] } }) ∧
    (d.state = .pending ∨ d.state = .stepping ∨ d.state = .recovering
        ∨ (d.state = .idle ∧ d.dir ≠ .n ∧ s.vo.supply = .low) →
      ∃ t, exec (.neutral f) s = .next t ∧ Answered t 27 f.tag .ok (be8 2 ++ be8 n) ∧ t.sc.queue = []
        ∧ t.sc = { s.sc with
            queue := [], shift := none, modDue := none, supplyWait := none, brakeWait := none
            dump := some (s.time + 100000), pub := { time := s.time, state := .aborting }
            window := t.sc.window, timeoutFault := if d.state = .idle then s.sc.timeoutFault else none }
        ∧ (∀ c : Fin 9, (t.vo.chan[clutchChan c]).command = 0)
        ∧ (∀ j : Fin 47, t.ft[j] = if d.state ≠ .idle ∧ s.sc.timeoutFault = some j ∧ (s.ft[j]).state = .active then
            { s.ft[j] with state := .latched, last := s.time } else s.ft[j])
        ∧ PreBrakeFollows s t ∧ t.hc = s.hc ∧ KeepsMeasures s t
        ∧ (KnownTimeout s → BrakeQuiet s → s.lp.link ≠ .lost →
            t.lp.notices = (offerAll (if d.state = .idle then [] else timeoutNote s) s.lp).notices)) ∧
    (d.state = .idle → d.dir ≠ .n → s.vo.supply = .normal →
      ∀ p st, FirstStepRuns s .disengage .none .n 0 p st →
      ∃ t, exec (.neutral f) s = .next t ∧ Answered t 27 f.tag .ok (be8 1 ++ be8 n) ∧ t.sc.queue = []
        ∧ ShiftBegins s .disengage .none .n 0 p st t ∧ PreBrakeFollows s t ∧ t.hc = s.hc ∧ KeepsMeasures s t)

/-- A PENDING head with the supply NORMAL, that is no upshift under braking, starts: it ends clamped away or at the position
held, is dropped for speed or engine speed, or begins a shift toward its gear or the first faster one the engine allows, of
the kind and sense that the two positions give and with the profile of that kind and sense: it begins as ShiftBegins says,
its roles bound, its first commands written and the next modulation 5 ms later. Pre-brake follows the record published, and
the notices posted are SHIFT_CLAMPED, SHIFT_DONE and SHIFT_DROPPED where the rules name them. Where it ends or is dropped
with more entries behind it, the next one enters PENDING at the same event and does there what SHIFT_START does; and so on,
for all this holds of a head whatever brake record publications of the event are still to be delivered (R96, R97, R98, R99,
R100, R116, R118, R119, R120, R121, R124, R189). It rests on the model's own choices of log entries 4, 13, 14 and 16. -/
def Obligations.PendingEntryStarts : Prop :=
  (∀ (gs : Vector GearEntry 12) (d d' : Dir) (g g' : Nat),
    let k := classify gs d g d' g'
    (d = .n → d' ≠ .n → k = .engage) ∧ (d ≠ .n → d' = .n → k = .disengage) ∧ (d = .n → d' = .n → k = .none) ∧
    (d ≠ .n → d' ≠ .n → d' ≠ d → k = .shuttle) ∧
    (d ≠ .n → d' = d → k = if (gearAt gs g).range ≠ (gearAt gs g').range then .range
      else if g ≠ g' then .speed else .none) ∧
    (∀ k : ShiftKind, senseOf k g g' = if k = .speed ∨ k = .range then
      (if g < g' then .up else if g' < g then .down else .none) else .none)) ∧
  ([(ShiftKind.speed, Sense.up), (.speed, .down), (.range, .up), (.range, .down), (.shuttle, .none), (.engage, .none),
    (.disengage, .none)].map (fun x => (mapIndex x.1 x.2).val) = [0, 1, 2, 3, 4, 5, 6]) ∧
  (∀ s : State, s.inRun = true → s.sc.pub.state = .pending → s.vo.supply = .normal →
    ∀ e rest, s.sc.queue = e :: rest →
    let d := s.sc.pub
    ¬(e.dir = d.dir ∧ d.gear < e.gear ∧ s.tbc.pub.braking = true) →
    let cap := if e.dir = .r then s.sc.window.reverseCap else s.sc.window.gHigh
    let fits (g : Nat) := s.me.pub.nOut * (gearAt s.sc.gears g).ratio / 1000 ≤ s.pc.limits.nEngineMax
    let fastDir (g : Nat) := resolveGear s.sc.gears cap e.gear = some g ∧ e.dir ≠ d.dir ∧ d.dir ≠ .n
      ∧ s.pc.limits.vShuttleMax < s.me.pub.vR
    let ended (ns : List Notice) :=
      (rest = [] → ∃ t, exec .shiftStart s = .next t ∧ t.sc.queue = [] ∧ t.sc.pub.state = .idle
        ∧ t.sc.pub.dir = d.dir ∧ t.sc.pub.gear = d.gear ∧ t.sc.supplyWait = none ∧ t.sc.brakeWait = none
        ∧ (∀ c : Fin 9, (t.vo.chan[clutchChan c]).command = (s.vo.chan[clutchChan c]).command)
        ∧ ShiftEvent ns s t ∧ t.hc = s.hc ∧ KeepsMeasures s t) ∧
      (∀ e' rest', rest = e' :: rest' → ∃ p, exec .shiftStart s = exec .shiftStart p
        ∧ HeadPends e' rest' d.dir d.gear s p ∧ p.lp = offerAll ns s.lp ∧ p.ft = s.ft ∧ p.sc.pub.above = d.above
        ∧ p.sc.dump = s.sc.dump ∧ p.sc.timeoutFault = s.sc.timeoutFault
        ∧ ∀ c : Fin 9, (p.vo.chan[clutchChan c]).command = (s.vo.chan[clutchChan c]).command)
    let note (k : NoticeKind) (lvl v1 v2 : Nat) : Notice := noticeOf s k lvl .sc v1 v2
    let clamp (g : Nat) : List Notice := if g = e.gear then [] else [note .shiftClamped 1 e.gear g]
    (resolveGear s.sc.gears cap e.gear = none → ended [note .shiftClamped 1 e.gear 0]) ∧
    (∀ g, resolveGear s.sc.gears cap e.gear = some g →
      (e.dir = d.dir → g = d.gear → ended (clamp g ++ [note .shiftDone 0 g e.dir.code])) ∧
      (fastDir g → ended (clamp g ++ [note .shiftDropped 2 e.gear 3])) ∧
      (e.dir = d.dir → g < d.gear → ¬fits g →
        (∀ h : Fin 13, g < h.val → h.val ≤ cap → h.val < d.gear → gearEnabled s.sc.gears h = true → ¬fits h) →
        ended (clamp g ++ [note .shiftDropped 2 e.gear 2])) ∧
      (∀ h : Fin 13, ¬(e.dir = d.dir ∧ g = d.gear) → ¬fastDir g → d.dir ≠ .n ∨ e.dir ≠ .n →
        (if e.dir = d.dir ∧ g < d.gear then
          fits h ∧ (h.val = g ∨ (¬fits g ∧ g < h.val ∧ h.val ≤ cap ∧ h.val < d.gear ∧ gearEnabled s.sc.gears h = true
            ∧ ∀ j : Fin 13, g < j.val → j < h → gearEnabled s.sc.gears j = true → ¬fits j))
        else h.val = g) →
        let k := classify s.sc.gears d.dir d.gear e.dir h
        let u := senseOf k d.gear h
        ∀ p st, FirstStepRuns s k u e.dir h p st →
        ∃ t, exec .shiftStart s = .next t ∧ t.sc.queue = rest ∧ ShiftBegins s k u e.dir h p st t
          ∧ ShiftEvent (clamp g ++ if h.val = g then [] else [note .shiftClamped 1 g h]) s t ∧ t.hc = s.hc
          ∧ KeepsMeasures s t)))

/-- A modulation update forms every clutch's command by its role's action at the elapsed time, load-compensated in TORQUE
and INERTIA and cut at 250, the load being the greater share of torque and draft; the step runs on while its end condition
is not met; the next step, of any end condition not met at its entry, takes the commands just formed as its entry pressures
and has its own commands written at the same update, which counts for its sync count; and the last step's end completes the
shift in the target position and posts SHIFT_DONE and, where the flag turns true, ABOVE_WINDOW, where the head of the queue,
if any, enters PENDING and does what SHIFT_START does. Pre-brake follows each record published, and a step that runs on or
is entered posts nothing (R95, R99, R103, R116, R121, R122, R123, R124, R125, R126, R189). It rests on the model's own
choices of log entries 4, 6, 13 and 28. -/
def Obligations.ModulationUpdatesRunTheProfile : Prop :=
  (∀ s : State,
    let e := s.me.engine
    let torque := if e.stale then 1000 else e.torque
    (∀ d x, s.mu.draft.latest = some (d, true) → s.mu.draft.lastValid = some x → (s.ft[fScanStale]).state ≠ .active →
      loadOf s = max torque (min 1000 (x.natAbs * 1000 / s.hc.cfg.dMax))) ∧
    ((∀ d, s.mu.draft.latest ≠ some (d, true)) ∨ (s.ft[fScanStale]).state = .active → loadOf s = max torque 1000)) ∧
  (∀ (gs : Vector GearEntry 12) (d : Dir) (g : Nat) (c : Fin 9), (clutchChan c).val = c.val ∧ (clutchRole c).val = c.val ∧
    (c ∈ engagedSet gs d g ↔ d ≠ .n ∧ (c.val = (gearAt gs g).speed.val ∨ c.val = 4 + (gearAt gs g).range.val
      ∨ c.val = if d = .f then 7 else 8))) ∧
  (∀ s : State, s.undelivered = 0 → s.inRun = true → s.due s.sc.modDue = true → s.sc.pub.state = .stepping →
    ∀ run, s.sc.shift = some run → ∀ p, run.profile = some p →
    ∀ st rest, (s.sc.profiles[p]).drop run.step = st :: rest →
    let el := s.time - run.entry
    let total := run.applied * 1000
    let command (c : Fin 9) : Nat := stepCommand s run st el c
    let filled (c : Fin 9) := (s.sc.pFillDetect : Int) ≤ (s.mu.snapshot.entries[clutchRole c]).value
    let agrees := ((s.me.pub.nIn : Int)
      - (s.me.pub.nOut * (gearAt s.sc.gears run.tgtGear).ratio / 1000 : Nat)).natAbs ≤ s.sc.wSync
    let timed := st.endCond = .time ∨ (st.endCond = .filled ∧ ∀ c, run.onA = some c → s.roleOk (clutchRole c) = false)
      ∨ (st.endCond = .synced ∧ (run.tgtDir = .n ∨ s.me.pub.inputSuspect = true))
    let met := (st.endCond = .filled ∧ ∃ c, run.onA = some c ∧ filled c)
      ∨ (st.endCond = .synced ∧ agrees ∧ 2 ≤ run.sync)
    let ends := (timed ∧ total ≤ el) ∨ (¬timed ∧ met)
    let done := noticeOf s .shiftDone 0 .sc run.tgtGear run.tgtDir.code :: if run.tgtDir = .f
      ∧ s.sc.window.gHigh < run.tgtGear ∧ s.sc.pub.above = false then
        [noticeOf s .aboveWindow 2 .sc run.tgtGear s.sc.window.gHigh] else []
    (¬ends → el < total →
      ∃ t, exec .modulationUpdate s = .next t ∧ t.sc.pub.state = .stepping ∧ t.sc.pub.phase = st.label
        ∧ t.sc.pub.step = run.step
        ∧ t.sc.shift = some { run with sync := if st.endCond = .synced ∧ agrees then run.sync + 1 else 0 }
        ∧ (∀ c : Fin 9, (t.vo.chan[clutchChan c]).command = min 250 (command c))
        ∧ t.sc.modDue = s.sc.modDue.map (· + 5000) ∧ t.sc.queue = s.sc.queue ∧ t.sc.pub.dir = s.sc.pub.dir
        ∧ t.sc.pub.gear = s.sc.pub.gear ∧ Posts [] s t ∧ t.hc = s.hc ∧ KeepsMeasures s t
        ∧ (s.sc.pub.phase = st.label → s.sc.pub.step = run.step →
            t.lp = s.lp ∧ t.ft = s.ft ∧ t.tbc = s.tbc ∧ t.fdm = s.fdm)) ∧
    (ends → rest = [] → s.sc.queue = [] →
      ∃ t, exec .modulationUpdate s = .next t ∧ t.sc.pub.state = .idle ∧ t.sc.pub.dir = run.tgtDir
        ∧ t.sc.pub.gear = run.tgtGear ∧ t.sc.pub.kind = .none ∧ t.sc.pub.phase = .none ∧ t.sc.shift = none
        ∧ t.sc.modDue = none ∧ t.sc.queue = []
        ∧ (∀ c : Fin 9, (t.vo.chan[clutchChan c]).command =
            if c ∈ engagedSet s.sc.gears run.tgtDir run.tgtGear then min 250 (gearAt s.sc.gears run.tgtGear).pLock
            else 0)
        ∧ ShiftEvent done s t ∧ t.hc = s.hc ∧ KeepsMeasures s t) ∧
    (ends → rest = [] → ∀ e q, s.sc.queue = e :: q →
      ∃ p, exec .modulationUpdate s = exec .shiftStart p ∧ HeadPends e q run.tgtDir run.tgtGear s p ∧ p.ft = s.ft
        ∧ p.sc.dump = s.sc.dump ∧ p.sc.timeoutFault = s.sc.timeoutFault
        ∧ p.sc.pub.above = decide (run.tgtDir = .f ∧ s.sc.window.gHigh < run.tgtGear) ∧ p.lp = offerAll done s.lp
        ∧ ∀ c : Fin 9, (p.vo.chan[clutchChan c]).command =
            if c ∈ engagedSet s.sc.gears run.tgtDir run.tgtGear then min 250 (gearAt s.sc.gears run.tgtGear).pLock
            else 0) ∧
    (ends → ∀ st' rest', rest = st' :: rest' → 0 < st'.duration → FillOpen s (run.onA.map Fin.val) st' →
      let run' : ShiftRun := { run with
        step := run.step + 1, entry := s.time, applied := stepTime s st', entryP := .ofFn command, sync := 0 }
      ∃ t, exec .modulationUpdate s = .next t ∧ t.sc.pub.state = .stepping ∧ t.sc.pub.phase = st'.label
        ∧ t.sc.pub.step = run.step + 1
        ∧ t.sc.shift = some { run' with sync := if st'.endCond = .synced ∧ agrees then 1 else 0 }
        ∧ (∀ c : Fin 9, (t.vo.chan[clutchChan c]).command = min 250 (stepCommand s run' st' 0 c))
        ∧ t.sc.modDue = s.sc.modDue.map (· + 5000) ∧ t.sc.pub.dir = s.sc.pub.dir ∧ t.sc.pub.gear = s.sc.pub.gear
        ∧ t.sc.queue = s.sc.queue ∧ Posts [] s t ∧ (s.sc.pub.step ≠ run.step + 1 → ShiftEvent [] s t) ∧ t.hc = s.hc
        ∧ KeepsMeasures s t))

/-- A FILLED or SYNCED step that reaches its time unmet raises its timeout fault and empties the queue. A SPEED, RANGE or
SHUTTLE shift goes to RECOVERING with the position and kind of its record kept: the recovery begins now, its four roles
unbound, from the pressures the step had just formed, which the clutches of the previous gear keep and every other clutch
leaves for 0, its next update 5 ms on. An ENGAGE goes to ABORTING, neutral, every clutch at 0 for the dump time, with
SHIFT_NEUTRALED posted after the fault's notice. Pre-brake follows the record published. STEP_TIMEOUT and the modulation
update that finds it are one event (R121, R122, R125, R127, R128, R129, R130, R189). It rests on the model's own choices of
log entries 4, 6, 13, 15, 28 and 38. -/
def Obligations.StepTimeoutsRecoverOrAbort : Prop :=
  ∀ s : State, s.undelivered = 0 → s.inRun = true → s.due s.sc.modDue = true → s.sc.pub.state = .stepping →
    ∀ c, c = .stepTimeout ∨ c = .modulationUpdate →
    ∀ run, s.sc.shift = some run → ∀ p, run.profile = some p →
    ∀ st rest, (s.sc.profiles[p]).drop run.step = st :: rest → run.applied * 1000 ≤ s.time - run.entry →
    let agrees := ((s.me.pub.nIn : Int)
      - (s.me.pub.nOut * (gearAt s.sc.gears run.tgtGear).ratio / 1000 : Nat)).natAbs ≤ s.sc.wSync
    let fillLate := st.endCond = .filled ∧ ∃ k, run.onA = some k ∧ s.roleOk (clutchRole k) = true
      ∧ (s.mu.snapshot.entries[clutchRole k]).value < s.sc.pFillDetect
    let syncLate := st.endCond = .synced ∧ run.tgtDir ≠ .n ∧ s.me.pub.inputSuspect = false ∧ (¬agrees ∨ run.sync < 2)
    let i := if st.endCond = .filled then fFillTimeout else fSyncTimeout
    let detail := if st.endCond = .filled then (run.onA.map Fin.val).getD 0 else run.tgtGear
    fillLate ∨ syncLate →
      ∃ t, exec c s = .next t ∧ t.sc.queue = [] ∧ (t.ft[i]).state = .active
        ∧ ((s.ft[i]).state ≠ .active → (t.ft[i]).detail = BitVec.ofNat 16 detail)
        ∧ t.sc.timeoutFault = some i ∧ t.hc = s.hc ∧ KeepsMeasures s t
        ∧ ShiftEvent (raisedNote s i detail ++
            if s.sc.pub.kind = .engage then [noticeOf s .shiftNeutraled 3 .sc run.tgtGear 0] else []) s t
        ∧ (s.sc.pub.kind ≠ .engage →
            let formed (k : Fin 9) := stepCommand s run st (s.time - run.entry) k
            t.sc.pub = { s.sc.pub with
                time := s.time, state := .recovering, phase := .none, step := 0, above := t.sc.pub.above }
              ∧ t.sc.shift = some { run with
                  onA := none, offA := none, onB := none, offB := none, entry := s.time, applied := 200, sync := 0
                  entryP := .ofFn formed }
              ∧ (∀ k : Fin 9, (t.vo.chan[clutchChan k]).command =
                  if k ∈ engagedSet s.sc.gears run.prevDir run.prevGear then min 250 (formed k) else 0)
              ∧ t.sc.modDue = s.sc.modDue.map (· + 5000))
        ∧ (s.sc.pub.kind = .engage → t.sc.pub = { time := s.time, state := .aborting } ∧ t.sc.shift = none
            ∧ t.sc.modDue = none ∧ t.sc.dump = some (s.time + 100000)
            ∧ (∀ k : Fin 9, (t.vo.chan[clutchChan k]).command = 0))

/-- A recovery ramps the previous gear's clutches to its P_lock over 200 ms and then holds them there. From then on, at the
third update in sync or with INPUT suspect, it ends IDLE in the previous gear, the timeout fault ends and SHIFT_RECOVERED is
posted, and the head of the queue, if any, enters PENDING after that and does what SHIFT_START does; until then it runs on,
counting the updates in sync; 1 000 ms after its entry it fails: ABORTING, the timeout fault LATCHED and RECOVERY_FAILED
ACTIVE with the previous gear, each with its notice, and SHIFT_NEUTRALED posted after both. Pre-brake follows the record
published (R116, R128, R129, R189). It rests on the model's own choices of log entries 4, 6, 13, 15, 28 and 34. -/
def Obligations.RecoveriesSucceedOrFail : Prop :=
  ∀ s : State, s.undelivered = 0 → s.inRun = true → s.due s.sc.modDue = true → s.sc.pub.state = .recovering →
    ∀ run, s.sc.shift = some run →
    let el := s.time - run.entry
    let lock := (gearAt s.sc.gears run.prevGear).pLock
    let agrees := ((s.me.pub.nIn : Int)
      - (s.me.pub.nOut * (gearAt s.sc.gears run.prevGear).ratio / 1000 : Nat)).natAbs ≤ s.sc.wSync
    let done := s.me.pub.inputSuspect = true ∨ (agrees ∧ 2 ≤ run.sync)
    let inPrev (k : Fin 9) := k ∈ engagedSet s.sc.gears run.prevDir run.prevGear
    (run.entry ≤ s.time → el < 200000 →
      ∃ t, exec .modulationUpdate s = .next t ∧ t.sc.pub = s.sc.pub ∧ t.sc.queue = s.sc.queue
        ∧ t.sc.shift = some { run with sync := if agrees then run.sync + 1 else 0 }
        ∧ (∀ k : Fin 9, (t.vo.chan[clutchChan k]).command = if inPrev k then
            min 250 ((run.entryP[k] : Int) + (((lock : Int) - run.entryP[k]) * el).tdiv 200000).toNat else 0)
        ∧ t.sc.timeoutFault = s.sc.timeoutFault ∧ t.ft = s.ft ∧ t.lp = s.lp ∧ t.tbc = s.tbc ∧ t.hc = s.hc ∧ KeepsMeasures s t) ∧
    (run.entry + 200000 ≤ s.time → el < 1000000 → ¬done →
      ∃ t, exec .modulationUpdate s = .next t ∧ t.sc.pub = s.sc.pub ∧ t.sc.queue = s.sc.queue
        ∧ t.sc.shift = some { run with sync := if agrees then run.sync + 1 else 0 }
        ∧ t.sc.modDue = s.sc.modDue.map (· + 5000) ∧ t.sc.timeoutFault = s.sc.timeoutFault ∧ t.ft = s.ft ∧ t.lp = s.lp
        ∧ (∀ k : Fin 9, (t.vo.chan[clutchChan k]).command = if inPrev k then min 250 lock else 0)
        ∧ t.hc = s.hc ∧ KeepsMeasures s t) ∧
    (KnownTimeout s → run.entry + 200000 ≤ s.time → done → s.sc.pub.dir = run.prevDir → s.sc.pub.gear = run.prevGear →
      ∀ e q, s.sc.queue = e :: q →
      ∃ p, exec .modulationUpdate s = exec .shiftStart p ∧ HeadPends e q run.prevDir run.prevGear s p
        ∧ p.sc.timeoutFault = none ∧ p.sc.dump = s.sc.dump ∧ p.sc.pub.above = s.sc.pub.above
        ∧ (∀ k : Fin 9, (p.vo.chan[clutchChan k]).command = if inPrev k then min 250 lock else 0)
        ∧ p.lp = offerAll (timeoutNote s ++ [noticeOf s .shiftRecovered 2 .sc run.prevGear run.tgtGear]) s.lp
        ∧ (∀ i : Fin 47, p.ft[i] = if s.sc.timeoutFault = some i ∧ (s.ft[i]).state = .active then
            { s.ft[i] with state := .latched, last := s.time } else s.ft[i])) ∧
    (run.entry + 200000 ≤ s.time → done → s.sc.queue = [] → s.sc.pub.dir = run.prevDir →
      s.sc.pub.gear = run.prevGear →
      ∃ t, exec .modulationUpdate s = .next t ∧ t.sc.pub.state = .idle ∧ t.sc.pub.dir = run.prevDir
        ∧ t.sc.pub.gear = run.prevGear ∧ t.sc.shift = none ∧ t.sc.modDue = none
        ∧ (∀ k : Fin 9, (t.vo.chan[clutchChan k]).command = if inPrev k then min 250 lock else 0)
        ∧ (∀ i, s.sc.timeoutFault = some i → (s.ft[i]).state = .active → (t.ft[i]).state = .latched)
        ∧ (KnownTimeout s →
            ShiftEvent (timeoutNote s ++ [noticeOf s .shiftRecovered 2 .sc run.prevGear run.tgtGear]) s t)
        ∧ t.hc = s.hc ∧ KeepsMeasures s t) ∧
    (run.entry + 1000000 ≤ s.time → ¬done → ∀ c, c = .recoveryFailure ∨ c = .modulationUpdate →
      ∃ t, exec c s = .next t ∧ t.sc.pub.state = .aborting ∧ t.sc.pub.dir = .n ∧ t.sc.pub.gear = 0
        ∧ t.sc.dump = some (s.time + 100000) ∧ t.sc.modDue = none
        ∧ (∀ k : Fin 9, (t.vo.chan[clutchChan k]).command = 0)
        ∧ (∀ i, s.sc.timeoutFault = some i → i ≠ fRecoveryFailed → (s.ft[i]).state = .active →
            (t.ft[i]).state = .latched)
        ∧ (t.ft[fRecoveryFailed]).state = .active
        ∧ ((s.ft[fRecoveryFailed]).state ≠ .active →
            (t.ft[fRecoveryFailed]).detail = BitVec.ofNat 16 run.prevGear)
        ∧ (KnownTimeout s → ShiftEvent (timeoutNote s ++ raisedNote s fRecoveryFailed run.prevGear
            ++ [noticeOf s .shiftNeutraled 3 .sc run.tgtGear 0]) s t)
        ∧ t.hc = s.hc ∧ KeepsMeasures s t)

/-- SUPPLY_WAIT_EXPIRY and BRAKE_WAIT_EXPIRY drop the PENDING head with their reason: alone in the queue it leaves the SC
IDLE in its position with SHIFT_DROPPED posted and, as log entry 38 chooses, the target fields at N and 0. DUMP_TIME_EXPIRY
leaves ABORTING for IDLE in neutral with every clutch at 0 and ends the timeout fault of a failed ENGAGE with its notice.
Pre-brake follows each record published. At each of them the next entry, if any, enters PENDING at the same event with its
own wait timers, with the supply LOW stays there, and does there what SHIFT_START does. While a head waits, a supply change
and a publication of the brake record start, keep or discard its two wait timers as their causes stand, and start it when
neither cause is left; the SC and then the FDM take such a publication at the end of the event that made it (R116, R118,
R127, R130, R133, R134, R141, R189). It rests on the model's own choices of log entries 4, 6, 14, 16, 34 and 38. -/
def Obligations.WaitsAndDumpsTakeTheNextHead : Prop :=
  (∀ (brake : Bool) (s : State), s.undelivered = 0 → s.inRun = true → s.sc.pub.state = .pending →
    s.due (if brake then s.sc.brakeWait else s.sc.supplyWait) = true →
    let c : Instr := if brake then .brakeWaitExpiry else .supplyWaitExpiry
    let reason := if brake then 1 else 0
    let dropped (e : ShiftEntry) : List Notice := [noticeOf s .shiftDropped 2 .sc e.gear reason]
    (∀ e, s.sc.queue = [e] →
      ∃ t, exec c s = .next t ∧ t.sc.queue = [] ∧ t.sc.pub.state = .idle ∧ t.sc.pub.dir = s.sc.pub.dir
        ∧ t.sc.pub.gear = s.sc.pub.gear ∧ t.sc.pub.tgtDir = .n ∧ t.sc.pub.tgtGear = 0 ∧ t.sc.supplyWait = none ∧ t.sc.brakeWait = none
        ∧ (∀ c : Fin 9, (t.vo.chan[clutchChan c]).command = (s.vo.chan[clutchChan c]).command)
        ∧ ShiftEvent (dropped e) s t ∧ t.hc = s.hc ∧ KeepsMeasures s t) ∧
    (∀ e e' rest, s.sc.queue = e :: e' :: rest → s.vo.supply = .low →
      ∃ t, exec c s = .next t ∧ t.sc.queue = e' :: rest ∧ t.sc.pub.state = .pending ∧ t.sc.pub.tgtDir = e'.dir
        ∧ t.sc.pub.tgtGear = e'.gear ∧ t.sc.supplyWait = some (s.time + 1000000) ∧ KeepsMeasures s t) ∧
    (∀ e e' rest, s.sc.queue = e :: e' :: rest →
      ∃ p, exec c s = exec .shiftStart p ∧ HeadPends e' rest s.sc.pub.dir s.sc.pub.gear s p
        ∧ p.lp = offerAll (dropped e) s.lp ∧ p.ft = s.ft ∧ p.sc.pub.above = s.sc.pub.above
        ∧ p.sc.dump = s.sc.dump ∧ p.sc.timeoutFault = s.sc.timeoutFault
        ∧ ∀ c : Fin 9, (p.vo.chan[clutchChan c]).command = (s.vo.chan[clutchChan c]).command)) ∧
  (∀ s : State, s.undelivered = 0 → s.inRun = true → s.due s.sc.dump = true → s.sc.pub.state = .aborting →
    s.sc.pub.dir = .n →
    (s.sc.queue = [] →
      ∃ t, exec .dumpTimeExpiry s = .next t ∧ t.sc.pub.state = .idle ∧ t.sc.pub.dir = .n
        ∧ t.sc.pub.gear = s.sc.pub.gear ∧ t.sc.dump = none ∧ t.sc.queue = []
        ∧ (∀ c : Fin 9, (t.vo.chan[clutchChan c]).command = 0)
        ∧ (∀ i, s.sc.timeoutFault = some i → (s.ft[i]).state = .active → (t.ft[i]).state = .latched)
        ∧ (KnownTimeout s → ShiftEvent (timeoutNote s) s t) ∧ t.hc = s.hc ∧ KeepsMeasures s t) ∧
    (∀ e rest, s.sc.queue = e :: rest → s.vo.supply = .low →
      ∃ t, exec .dumpTimeExpiry s = .next t ∧ t.sc.pub.state = .pending ∧ t.sc.pub.tgtDir = e.dir
        ∧ t.sc.pub.tgtGear = e.gear ∧ t.sc.queue = e :: rest ∧ t.sc.supplyWait = some (s.time + 1000000)
        ∧ t.hc = s.hc ∧ KeepsMeasures s t) ∧
    (KnownTimeout s → ∀ e rest, s.sc.queue = e :: rest →
      ∃ p, exec .dumpTimeExpiry s = exec .shiftStart p ∧ HeadPends e rest .n s.sc.pub.gear s p ∧ p.sc.dump = none
        ∧ p.sc.timeoutFault = none ∧ p.lp = offerAll (timeoutNote s) s.lp ∧ p.sc.pub.above = s.sc.pub.above
        ∧ (∀ i : Fin 47, p.ft[i] = if s.sc.timeoutFault = some i ∧ (s.ft[i]).state = .active then
            { s.ft[i] with state := .latched, last := s.time } else s.ft[i])
        ∧ ∀ c : Fin 9, (p.vo.chan[clutchChan c]).command = 0)) ∧
  (∀ (e : ShiftEntry) (rest : List ShiftEntry) (s : State), s.sc.queue = e :: rest → s.sc.pub.state = .pending →
    let keep (t : Option Nat) (d : Nat) := some (t.getD (s.time + d))
    let brakes := e.dir = s.sc.pub.dir ∧ s.sc.pub.gear < e.gear ∧ s.tbc.pub.braking = true
    (scOnSupply s = pendingTest s ∧ scOnBrake s = pendingTest (scWindow false s)) ∧
    (s.vo.supply = .low ∨ brakes → pendingTest s = { s with sc := { s.sc with
      supplyWait := if s.vo.supply = .low then keep s.sc.supplyWait 1000000 else none
      brakeWait := if brakes then keep s.sc.brakeWait 3000000 else none } }) ∧
    (s.vo.supply = .normal → ¬brakes → s.inRun = true → exec .shiftStart s = .next (settle (pendingTest s)))) ∧
  (∀ s : State, (s.sc.pub.state ≠ .pending → scOnBrake s = scWindow false s) ∧
    (s.undelivered = 0 → settle s = s) ∧
    (s.undelivered = 1 →
      let t := fdmEvaluate false (scOnBrake { s with undelivered := 0 })
      t.undelivered = 0 → settle s = t))

/-! ### Front drive (R137 to R151) -/

/-- CFG_FRONT stores its thresholds whole in both part states; FRONT_MODE stores a mode, OFF and AUTO refused by a
standing FRONT fault; at FRONT_WAIT_EXPIRY the FDM posts FRONT_WAIT_EXPIRED and FRONT_CHANGED and is RELEASED (R138,
R139, R140, R148). It rests on the model's own choices of log entry 6. -/
def Obligations.FrontSettingsModeAndWait : Prop :=
  (∀ (f : Request) (s : State), Ready s → f.len = 14 →
    let inRanges := f.u16 0 < f.u16 2 ∧ f.u16 2 ≤ 20000 ∧ f.u16 4 ≤ 20000 ∧ f.u16 6 ≤ 1000 ∧ f.u16 8 ≤ 600
      ∧ 500 ≤ f.u16 10 ∧ f.u16 10 < f.u16 12 ∧ f.u16 12 ≤ 1500
    (¬inRanges → Answers (.cfgFront f) s 28 f .refusedRange [] s) ∧
    (inRanges → Answers (.cfgFront f) s 28 f .ok [] { s with fdm := { s.fdm with
      vOn := f.u16 0, vOff := f.u16 2, vCheck := f.u16 4, s4wd := f.u16 6, aTurn := f.u16 8
      leadLow := f.u16 10, leadHigh := f.u16 12 } })) ∧
  (∀ (f : Request) (s : State), s.undelivered = 0 → s.inRun = true → s.lp.link = .restoredWait → f.len = 1 →
    Answers (.frontMode f) s 29 f .refusedState [] s) ∧
  (∀ (f : Request) (s : State), InRunUp s → f.len = 1 →
    let taken (m : FrontMode) := Answers (.frontMode f) s 29 f .ok (be8 (f.u8 0) ++ be8 s.fdm.state.code)
      { s with fdm := { s.fdm with mode := m } }
    (2 < f.u8 0 → Answers (.frontMode f) s 29 f .refusedRange [] s) ∧
    (f.u8 0 = 1 → taken .on) ∧
    (f.u8 0 = 0 → blockingEntry s.ft .front = none → taken .off) ∧
    (f.u8 0 = 2 → blockingEntry s.ft .front = none → taken .auto) ∧
    (f.u8 0 = 0 ∨ f.u8 0 = 2 → ∀ i, blockingEntry s.ft .front = some i →
      Answers (.frontMode f) s 29 f .refusedFault (be8 i.val) s)) ∧
  (∀ s : State, s.undelivered = 0 → s.inRun = true → s.fdm.state = .engageWait → s.due s.fdm.wait = true →
    let lead : Word16 := if s.me.pub.leadValid then BitVec.ofNat 16 s.me.pub.lead else 0
    ∃ t, exec .frontWaitExpiry s = .next t
      ∧ t = { s with vo := t.vo, fdm := t.fdm, lp := t.lp }
      ∧ t.lp = offerNotice ⟨.frontChanged, 0, .fdm, s.time, 0, 2⟩
          (offerNotice ⟨.frontWaitExpired, 1, .fdm, s.time, lead, 0⟩ s.lp)
      ∧ t.fdm = { s.fdm with prev := .engageWait, state := .released, changeTime := s.time, waitStart := 0, wait := none }
      ∧ (t.vo.chan[chFront]).command = 1 ∧ (∀ j : Fin 14, j ≠ chFront → t.vo.chan[j] = s.vo.chan[j])
      ∧ t.vo.supply = s.vo.supply ∧ t.vo.supplyHold = s.vo.supplyHold ∧ t.vo.pLow = s.vo.pLow ∧ t.vo.pOk = s.vo.pOk)

/-- An evaluation of the front drive forms slip demand (at a motion update only) and the want, and changes the state by
them under the dwell and the phase guard; braking engages past both guards, a cause of FORCED keeps it FORCED, and a
change writes FRONT_RELEASE on in RELEASED and ENGAGE_WAIT only. Of the rest of the record and of what the FDM holds, the slip
hold time starts, stays and is discarded with the slip condition; a change sets the previous state and the change time, and
starts the wait of 2 000 ms with its start time where it enters ENGAGE_WAIT and discards both where it enters another state; the
mode, the causes and the thresholds stay as they are (R137, R138, R141, R142, R143, R144, R145, R146, R147, R149, R150). -/
def Obligations.FrontEvaluationChangesTheState : Prop :=
  ∀ (motion : Bool) (s : State),
    let f := s.fdm
    let m := s.me.pub
    let braking := s.tbc.pub.braking
    let above := m.slipValid = true ∧ f.s4wd < m.slip
    let demand : Bool := if motion then
      decide (above ∧ (f.slipDemand = true ∨ s.heldFor (some (f.slipHold.getD s.time)) 1000000 = true)) else f.slipDemand
    let steer := s.roleOk roleSteer = true ∧ f.aTurn < (s.mu.snapshot.entries[roleSteer]).value.natAbs
    let want : Want := if f.mode = .on ∨ braking = true then .engage else if f.mode = .off then .release
      else if steer then .release else if m.vR < f.vOn ∨ demand = true then .engage
      else if f.vOff < m.vR then .release else .keep
    let dwell := s.time < f.changeTime + 2000000
    let hand := s.sc.pub.phase = .torque ∨ s.sc.pub.phase = .inertia
    let lead := m.vR < f.vCheck ∨ (m.leadValid = true ∧ f.leadLow ≤ m.lead ∧ m.lead ≤ f.leadHigh)
    let forcing := f.causeConfig = true ∨ f.causeSupply = true ∨ f.causeOutput = true ∨ f.causeLink = true
    let after : FrontState × Guard :=
      match f.state with
      | .released => if braking then (.engaged, .none) else if want ≠ .engage then (.released, .none)
        else if dwell then (.released, .dwell) else if hand then (.released, .phase)
        else (if m.vR < f.vCheck then .engaged else .engageWait, .none)
      | .engageWait => if braking then (.engaged, .none) else if want = .release then (.released, .none)
        else if ¬lead then (.engageWait, .none) else if hand then (.engageWait, .phase) else (.engaged, .none)
      | .engaged => if want ≠ .release then (.engaged, .none) else if dwell then (.engaged, .dwell)
        else if hand then (.engaged, .phase) else (.released, .none)
      | .forced => if forcing then (.forced, .none) else if hand then (.forced, .phase)
        else (if want = .release then .released else .engaged, .none)
    let t := fdmEvaluate motion s
    let judged : FrontDrive := { f with
      want := want, blocked := after.2, slipDemand := demand
      slipHold := if motion then (if above then some (f.slipHold.getD s.time) else none) else f.slipHold }
    t = { s with lp := t.lp, vo := t.vo, fdm := t.fdm }
      ∧ (after.1 = f.state → t.fdm = judged ∧ t.lp = s.lp ∧ t.vo = s.vo)
      ∧ (after.1 ≠ f.state →
        t.fdm = { judged with
            state := after.1, prev := f.state, changeTime := s.time
            waitStart := if after.1 = .engageWait then s.time else 0
            wait := if after.1 = .engageWait then some (s.time + 2000000) else none }
        ∧ t.lp = offerNotice ⟨.frontChanged, 0, .fdm, s.time, BitVec.ofNat 16 after.1.code, BitVec.ofNat 16 f.state.code⟩ s.lp
        ∧ (t.vo.chan[chFront]).command = (if after.1 = .released ∨ after.1 = .engageWait then 1 else 0)
        ∧ (∀ j : Fin 14, j ≠ chFront → t.vo.chan[j] = s.vo.chan[j]))

/-! ### Hitch (R152 to R176) -/

/-- CFG_HITCH stores its settings whole. HITCH_SET stores the lever, mix and drop rate as clamped and slip limiting; in
LOCKED_OUT a lever within 20 of a valid position leads to CONTROL, or to HELD with return CONTROL under a hold cause, with
both valves at 0 and HITCH_STATE posted. In RESTORED_WAIT it is refused (R153, R154, R155, R156, R173). -/
def Obligations.HitchSettingsAndSetpoints : Prop :=
  (∀ (f : Request) (s : State), Ready s → f.len = 15 →
    let inRanges := (100 ≤ f.u16 0 ∧ f.u16 0 ≤ 6000) ∧ f.u8 2 ≤ 50 ∧ (1 ≤ f.u8 3 ∧ f.u8 3 ≤ 64) ∧ f.u16 4 ≤ 1000
      ∧ f.u16 6 ≤ 1000 ∧ f.u16 8 ≤ 1000 ∧ f.u16 10 ≤ 1000 ∧ (100 ≤ f.u16 12 ∧ f.u16 12 ≤ 2000) ∧ f.u8 14 = 0
      ∧ f.u16 8 ≤ s.pc.limits.pHitchUpperHard
    (¬inRanges → Answers (.cfgHitch f) s 30 f .refusedRange [] s) ∧
    (inRanges → Answers (.cfgHitch f) s 30 f .ok [] { s with hc := { s.hc with
      cfg := ⟨f.u16 0, f.u8 2, f.u8 3, f.u16 4, f.u16 6, f.u16 8, f.u16 10, f.u16 12⟩ } })) ∧
  (∀ (f : Request) (s : State), s.undelivered = 0 → s.inRun = true → s.lp.link = .restoredWait → f.len = 6 →
    Answers (.hitchSet f) s 31 f .refusedState [] s) ∧
  (∀ (f : Request) (s : State), InRunUp s → f.len = 6 →
    let lever := min 1000 (f.u16 0)
    let mix := min 100 (f.u8 2)
    let rate := min s.hc.cfg.vDrop (f.u16 3)
    let slip := decide (f.u8 5 = 1)
    let stored : Hitch := { s.hc with
      lever := lever, mix := mix, dropRate := rate, slipLimiting := slip, leverHeld := true }
    let status : Status := if lever = f.u16 0 ∧ mix = f.u8 2 ∧ rate = f.u16 3 then .ok else .okClamped
    let body (matched : Bool) (st : HitchState) :=
      be16 lever ++ be8 mix ++ be16 rate ++ beBool slip ++ beBool matched ++ be8 st.code
    let leaves := s.hc.state = .lockedOut ∧ s.hc.posValid = true ∧ ((lever : Int) - s.hc.pos).natAbs ≤ 20
    let any := s.hc.causeRequest = true ∨ s.hc.causeSupply = true ∨ s.hc.causeLink = true
    (1 < f.u8 5 → Answers (.hitchSet f) s 31 f .refusedRange [] s) ∧
    (f.u8 5 ≤ 1 → ∀ i, blockingEntry s.ft .hitch = some i →
      Answers (.hitchSet f) s 31 f .refusedFault (be8 i.val) s) ∧
    (f.u8 5 ≤ 1 → blockingEntry s.ft .hitch = none → ¬leaves →
      Answers (.hitchSet f) s 31 f status (body false s.hc.state) { s with hc := stored }) ∧
    (f.u8 5 ≤ 1 → blockingEntry s.ft .hitch = none → leaves →
      let new : HitchState := if any then .held else .control
      ∃ t, exec (.hitchSet f) s = .next t ∧ Answered t 31 f.tag status (body true new)
        ∧ t = { s with lp := t.lp, hc := t.hc, vo := t.vo }
        ∧ t.hc = { stored with
            prev := .lockedOut, state := new, changeTime := s.time, ret := if any then .control else .lockedOut
            heldDraft := if any then s.hc.heldDraft else none, raiseCmd := 0, lowerCmd := 0 }
        ∧ t.lp.notices = (offerAll [noticeOf s .hitchState 0 .hc new.code 0] s.lp).notices
        ∧ (∀ j : Fin 14, (t.vo.chan[j]).command = if j = chRaise ∨ j = chLower then 0 else (s.vo.chan[j]).command)))

/-- HITCH_MODE acts by its table of modes and states: it changes the state with LOWER at 0 and RAISE formed for the state
entered, ends what belonged to the state left, and posts HITCH_STATE, sets the return state while HELD, and changes nothing in
STOPPED or where the mode stands. In RESTORED_WAIT it is refused (R153, R157, R167, R168, R169, R173). That TRANSPORT taken in
LOCKED_OUT under a hold cause leaves transport-reached as it is, is the model's choice of log entry 39. -/
def Obligations.HitchModesActByState : Prop :=
  (∀ (f : Request) (s : State), s.undelivered = 0 → s.inRun = true → s.lp.link = .restoredWait → f.len = 1 →
    Answers (.hitchMode f) s 32 f .refusedState [] s) ∧
  (∀ (f : Request) (s : State), InRunUp s → f.len = 1 → 2 < f.u8 0 →
    Answers (.hitchMode f) s 32 f .refusedRange [] s) ∧
  (∀ (f : Request) (s : State), InRunUp s → f.len = 1 → f.u8 0 ≤ 2 →
    let any := s.hc.causeRequest = true ∨ s.hc.causeSupply = true ∨ s.hc.causeLink = true
    let st := s.hc.state
    let goal : HitchState := if f.u8 0 = 0 then .lockedOut else if f.u8 0 = 1 then .headland else .transport
    let body (x : HitchState) := be8 (f.u8 0) ++ be8 x.code
    let changes := st ≠ .held ∧ st ≠ .stopped ∧ st ≠ goal ∧ ¬(f.u8 0 = 0 ∧ (st = .control ∨ st = .shock))
    let top := if goal = .headland then min s.hc.cfg.pUp s.pc.limits.pHitchUpperHard else s.pc.limits.pHitchUpperHard
    (∀ i, blockingEntry s.ft .hitch = some i → Answers (.hitchMode f) s 32 f .refusedFault (be8 i.val) s) ∧
    (blockingEntry s.ft .hitch = none →
      (st ≠ .held → ¬changes → Answers (.hitchMode f) s 32 f .ok (body st) s) ∧
      (st = .held → Answers (.hitchMode f) s 32 f .ok (body .held) { s with hc := { s.hc with
        ret := if f.u8 0 ≠ 0 ∨ s.hc.ret = .headland ∨ s.hc.ret = .transport then goal else s.hc.ret
        reached := if f.u8 0 = 2 then false else s.hc.reached } }) ∧
      (changes →
        let new : HitchState := if st = .lockedOut ∧ any then .held else goal
        ∃ t, exec (.hitchMode f) s = .next t ∧ Answered t 32 f.tag .ok (body new)
          ∧ t = { s with lp := t.lp, hc := t.hc, vo := t.vo }
          ∧ t.hc = { s.hc with
              state := new, prev := st, changeTime := s.time, ret := if new = .held then goal else .lockedOut, lowerCmd := 0
              raiseCmd := if (new = .headland ∨ new = .transport) ∧ s.hc.pos < top then s.hc.cfg.vMax else 0
              shockTimer := if st = .shock then none else s.hc.shockTimer
              stall := if st = .control then none else s.hc.stall
              reached := if new = .transport then decide (top ≤ s.hc.pos) else s.hc.reached && decide (st ≠ .transport) }
          ∧ (t.vo.chan[chLower]).command = 0 ∧ (t.vo.chan[chRaise]).command = min t.hc.raiseCmd 1000
          ∧ t.lp.notices = (offerAll [noticeOf s .hitchState 0 .hc new.code st.code] s.lp).notices
          ∧ (∀ j : Fin 14, j ≠ chRaise → j ≠ chLower → t.vo.chan[j] = s.vo.chan[j]))))

/-- HITCH_HOLD leaves a hold pending unless one is set, with the link UP or RESTORED_WAIT; HITCH_RELEASE clears both and,
where HELD, returns to LOCKED_OUT once no other cause holds, with HITCH_STATE posted, and is refused where there is nothing
to release (R153, R170, R171). -/
def Obligations.HoldAndReleaseRequests : Prop :=
  (∀ (f : Request) (s : State), Ready s → f.len = 0 → s.inRun = true →
    let pending := s.hc.holdPending || !s.hc.causeRequest
    Answers (.hitchHold f) s 33 f .ok (be8 s.hc.state.code ++ beBool pending)
      { s with hc := { s.hc with holdPending := pending } }) ∧
  (∀ (f : Request) (s : State), Ready s → f.len = 0 → s.inRun = true →
    let nothing := s.hc.causeRequest = false ∧ s.hc.holdPending = false
    let last := s.hc.causeSupply = false ∧ s.hc.causeLink = false
    let cleared : Hitch := { s.hc with
      causeRequest := false, holdPending := false, ret := if s.hc.state = .held then .lockedOut else s.hc.ret }
    (s.lp.link = .restoredWait ∨ nothing → Answers (.hitchRelease f) s 34 f .refusedState [] s) ∧
    (s.lp.link = .up → ¬nothing → ¬(s.hc.state = .held ∧ last) →
      Answers (.hitchRelease f) s 34 f .ok (be8 s.hc.state.code) { s with hc := cleared }) ∧
    (s.lp.link = .up → ¬nothing → s.hc.state = .held → last →
      ∃ t, exec (.hitchRelease f) s = .next t ∧ Answered t 34 f.tag .ok (be8 0)
        ∧ t = { s with lp := t.lp, hc := t.hc, vo := t.vo }
        ∧ t.hc = { cleared with
            prev := .held, state := .lockedOut, changeTime := s.time, raiseCmd := 0, lowerCmd := 0 }
        ∧ t.lp.notices = (offerAll [noticeOf s .hitchState 0 .hc 0 5] s.lp).notices
        ∧ (∀ j : Fin 14, (t.vo.chan[j]).command = if j = chRaise ∨ j = chLower then 0 else (s.vo.chan[j]).command)))

/-- A fast sample is ignored after a reversal, counts while its draft is over the threshold inside both windows, and
at the Nth in a row shocks the hitch: CONTROL goes to SHOCK with LOWER at 0 and RAISE up to the upper limit, SHOCK
restarts its timer, any other state ignores it. SHOCK_TIMER_EXPIRY returns to CONTROL with both valves at 0 (R46,
R47, R48, R165, R166). It rests on the model's own choices of log entries 6 and 18. -/
def Obligations.ShocksRaiseAndReturn : Prop :=
  (∀ (l r : BitVec 13) (s : State), s.undelivered = 0 → s.mu.foc.running = true → s.mu.foc.sampleDue ≤ s.time →
    let c := s.mu.cfg
    let sum := if s.mu.dc.negative then -l.toInt + -r.toInt else l.toInt + r.toInt
    let above := (c.leftLow ≤ l.toInt ∧ l.toInt ≤ c.leftHigh) ∧ (c.rightLow ≤ r.toInt ∧ r.toInt ≤ c.rightHigh)
      ∧ c.dShock < (max (-6000) (min 6000 sum)).natAbs
    let n := if above then s.mu.foc.count + 1 else 0
    let foc (n i : Nat) : FastComp := { s.mu.foc with count := n, ignored := i, sampleDue := s.mu.foc.sampleDue + 250 }
    let put (f : FastComp) : State := { s with mu := { s.mu with foc := f } }
    let timer := some (s.time + s.hc.cfg.tShock * 1000)
    let go := exec (.fastSample l r) s
    (0 < s.mu.foc.ignored → go = .next (put (foc s.mu.foc.count (s.mu.foc.ignored - 1)))) ∧
    (s.mu.foc.ignored = 0 → n < c.nShock → go = .next (put (foc n 0))) ∧
    (s.mu.foc.ignored = 0 → c.nShock ≤ n → s.hc.state ≠ .control → s.hc.state ≠ .shock →
      go = .next (put (foc 0 0))) ∧
    (s.mu.foc.ignored = 0 → c.nShock ≤ n → s.hc.state = .shock →
      go = .next { put (foc 0 0) with hc := { s.hc with shockTimer := timer } }) ∧
    (s.mu.foc.ignored = 0 → c.nShock ≤ n → s.hc.state = .control →
      ∃ t, go = .next t ∧ t = { put (foc 0 0) with lp := t.lp, hc := t.hc, vo := t.vo }
        ∧ t.hc = { s.hc with
            prev := .control, state := .shock, changeTime := s.time, ret := .lockedOut, stall := none
            shockTimer := timer, lowerCmd := 0
            raiseCmd := if s.hc.pos < min s.hc.cfg.pUp s.pc.limits.pHitchUpperHard then s.hc.cfg.vMax else 0 }
        ∧ (t.vo.chan[chLower]).command = 0 ∧ (t.vo.chan[chRaise]).command = min t.hc.raiseCmd 1000
        ∧ (∀ j : Fin 14, j ≠ chRaise → j ≠ chLower → t.vo.chan[j] = s.vo.chan[j])
        ∧ t.lp = offerNotice ⟨.hitchShock, 1, .hc, s.time, BitVec.ofNat 16 s.hc.pos, 0⟩
            (offerNotice ⟨.hitchState, 0, .hc, s.time, 4, 1⟩ s.lp))) ∧
  (∀ s : State, s.undelivered = 0 → s.hc.state = .shock → s.due s.hc.shockTimer = true →
    ∃ t, exec .shockTimerExpiry s = .next t ∧ t = { s with lp := t.lp, hc := t.hc, vo := t.vo }
      ∧ t.hc = { s.hc with
          prev := .shock, state := .control, changeTime := s.time, ret := .lockedOut, shockTimer := none
          raiseCmd := 0, lowerCmd := 0 }
      ∧ t.lp = offerNotice ⟨.hitchState, 0, .hc, s.time, 1, 4⟩ s.lp
      ∧ (∀ j : Fin 14, (t.vo.chan[j]).command = if j = chRaise ∨ j = chLower then 0 else (s.vo.chan[j]).command))

/-- A settled conversion's result, chopped ones formed from it and the previous phase's, goes to the draft status, the
DRAFT_INVALID count and the hitch, whose record takes D and the result's own validity; the act treats the draft as invalid while
the snapshot is stale, too. A pending hold is applied first and leads to HELD. In CONTROL it drives the hitch by one
pass of the control law: the mixed position and draft errors, the draft term frozen in TORQUE and INERTIA and left out when
invalid, the slip term, the deadband, the gain and the limits of opening; then the stall test keeps, moves or drops its
reference, or finds a stall and stops the hitch. SHOCK, HEADLAND and TRANSPORT form RAISE, and STOPPED ends the stall entry and
tests its exit, as R165, R167, R168 and R176 give; LOCKED_OUT, HELD, and STOPPED without the exit, write no command. The notices
of the count, of the change of state and of HITCH_STALL are all that is posted, in this order but for the end of HITCH_STALL,
which comes before the exit's (R42, R43, R44, R45, R159, R160, R161, R162, R163, R164, R170, R174). It rests on the model's own
choices of log entries 6, 21 and 32. -/
def Obligations.DraftResultsRunTheControlLaw : Prop :=
  ∀ (l r : BitVec 13) (pl pr : Int) (s : State), s.undelivered = 0 → s.mu.dc.running = true → 2 ≤ s.mu.dc.settled →
    (s.mu.cfg.chop = true → s.mu.dc.prev = some (pl, pr)) →
    ∀ due rest, s.mu.dc.ends = due :: rest → due ≤ s.time →
    let c := s.mu.cfg
    let dc := s.mu.dc
    let h := s.hc
    let hard := s.pc.limits.pHitchUpperHard
    let upper := min h.cfg.pUp hard
    let half (a b : Int) := (if dc.negative then a - b else b - a).tdiv 2
    let draft := max (-6000) (min 6000
      (if c.chop then half pl l.toInt + half pr r.toInt else l.toInt + r.toInt))
    let inLeft (v : Int) := c.leftLow ≤ v ∧ v ≤ c.leftHigh
    let inRight (v : Int) := c.rightLow ≤ v ∧ v ≤ c.rightHigh
    let leftOk : Bool := decide (inLeft l.toInt ∧ (c.chop = true → inLeft pl))
    let rightOk : Bool := decide (inRight r.toInt ∧ (c.chop = true → inRight pr))
    let inside := leftOk && rightOk
    let valid := inside && !s.isStale
    let gap := if c.chopDelay = 0 then 0 else if c.chopDelay = 1 then 500 else if c.chopDelay = 2 then 1000 else 2000
    let n := s.mu.draftInvalid
    let side := if leftOk then 1 else if rightOk then 0 else 2
    let counted : State := if inside then (if 3 ≤ n then ftEnd fDraftInvalid s else s)
      else if n + 1 = 3 then ftStart fDraftInvalid side s else s
    let countNotes := if inside then (if 3 ≤ n then endedNote s fDraftInvalid else [])
      else if n + 1 = 3 then raisedNote s fDraftInvalid side else []
    let ref := ((1000 - (h.lever : Int)) * h.cfg.dMax).tdiv 1000
    let formed := max (-1000) (min 1000 (((draft - ref) * 1000).tdiv h.cfg.dMax))
    let frozen := s.sc.pub.phase = .torque ∨ s.sc.pub.phase = .inertia
    let kept : Option Int := if frozen then h.heldDraft else if valid then some formed else none
    let pos : Int := (h.lever : Int) - h.pos
    let mixed : Int := match (if valid then kept else none) with
      | some d => ((100 - (h.mix : Int)) * pos + h.mix * d).tdiv 100
      | none => pos
    let m := s.me.pub
    let slip : Int := if h.slipLimiting = true ∧ m.slipValid = true ∧ h.cfg.sLim < m.slip then
      min 1000 (4 * ((m.slip : Int) - h.cfg.sLim)) else 0
    let e := max (-1000) (min 1000 (mixed + slip))
    let v := min ((e.natAbs - h.cfg.db) * h.cfg.gain / 16) h.cfg.vMax
    let raise := if (h.cfg.db : Int) < e ∧ h.pos < upper then v else 0
    let lower := if e < -(h.cfg.db : Int) then min (min v h.cfg.vDrop) h.dropRate else 0
    let wide : Option HitchValve := if 300 ≤ raise then some .raise else if 300 ≤ lower then some .lower else none
    let moved (x : StallRef) := 5 ≤ ((h.pos : Int) - x.pos).natAbs
    let stalls : Bool := match wide, h.stall with
      | some v, some x => decide (v = x.valve ∧ ¬moved x ∧ x.time + 1000000 ≤ s.time)
      | _, _ => false
    let stall : Option StallRef := match wide, h.stall with
      | none, _ => none
      | some v, none => some ⟨s.time, h.pos, v⟩
      | some v, some x => if v ≠ x.valve then none else if moved x then some ⟨s.time, h.pos, v⟩ else some x
    let taken : Hitch := { h with draft := draft, draftValid := inside }
    let held : Hitch := { taken with holdPending := false, causeRequest := h.causeRequest || h.holdPending }
    let lift := if (h.state = .transport ∧ h.reached = false ∧ h.pos < hard) ∨ (h.state ≠ .transport ∧ h.pos < upper)
      then h.cfg.vMax else 0
    let leaves := h.stopPosition = false ∧ h.raiseForced = false ∧ h.lowerForced = false
      ∧ blockingEntry s.ft .hitch = none
    let changes (k : Nat) := [noticeOf s .hitchState 0 .hc k h.state.code]
    let gives (notes : List Notice) (P : State → Prop) := ∃ t, exec (.conversionEnd l r) s = .next t
      ∧ t.mu = { s.mu with
          dc := if c.chop then { dc with
              ends := rest, negative := !dc.negative, settled := 0, started := 0, startDue := some (due + gap)
              prev := some (l.toInt, r.toInt) }
            else { dc with ends := rest }
          foc := if c.chop then { s.mu.foc with ignored := 2 } else s.mu.foc
          draft := { latest := some (draft, inside)
                     lastValid := if inside then some draft else s.mu.draft.lastValid }
          draftInvalid := if inside then 0 else n + 1 }
      ∧ t.ft[fDraftInvalid] = counted.ft[fDraftInvalid]
      ∧ (∀ i : Fin 47, i ≠ fDraftInvalid → i ≠ fHitchStall → t.ft[i] = s.ft[i])
      ∧ (∀ j : Fin 14, j ≠ chRaise → j ≠ chLower → t.vo.chan[j] = s.vo.chan[j])
      ∧ t.sc = s.sc ∧ t.fdm = s.fdm ∧ t.tbc = s.tbc ∧ t.me = s.me ∧ t.pc = s.pc ∧ t.time = s.time
      ∧ t.lp = offerAll (countNotes ++ notes) s.lp ∧ P t
    let drives (t : State) := (t.vo.chan[chRaise]).command = min t.hc.raiseCmd 1000
      ∧ (t.vo.chan[chLower]).command = min t.hc.lowerCmd 1000
    (h.holdPending = false → h.state = .control → stalls = false → gives [] fun t =>
      t.hc = { taken with heldDraft := kept, raiseCmd := raise, lowerCmd := lower, stall := stall } ∧ drives t
        ∧ t.ft[fHitchStall] = s.ft[fHitchStall]) ∧
    (h.holdPending = false → h.state = .control → stalls = true →
      let valve := if wide = some .raise then 0 else 1
      gives (changes 6 ++ raisedNote s fHitchStall valve) fun t =>
        t.hc = { taken with
            heldDraft := kept, stopStall := true, prev := .control, state := .stopped, changeTime := s.time
            ret := .lockedOut, stall := none, raiseCmd := 0, lowerCmd := 0 }
          ∧ drives t ∧ (t.ft[fHitchStall]).state = .active
          ∧ ((s.ft[fHitchStall]).state ≠ .active → (t.ft[fHitchStall]).detail = BitVec.ofNat 16 valve)) ∧
    (h.holdPending = false → h.state = .shock ∨ h.state = .headland ∨ h.state = .transport → gives [] fun t =>
      t.hc = { taken with
          raiseCmd := lift, lowerCmd := 0
          reached := h.reached || decide (h.state = .transport ∧ hard ≤ h.pos) }
        ∧ drives t ∧ t.ft[fHitchStall] = s.ft[fHitchStall]) ∧
    (h.holdPending = true → h.state = .control ∨ h.state = .shock ∨ h.state = .headland ∨ h.state = .transport →
      gives (changes 5) fun t =>
        t.hc = { held with
            prev := h.state, state := .held, changeTime := s.time
            ret := if h.state = .headland ∨ h.state = .transport then h.state else .control
            shockTimer := if h.state = .shock then none else h.shockTimer
            stall := if h.state = .control then none else h.stall, raiseCmd := 0, lowerCmd := 0 }
          ∧ drives t ∧ t.ft[fHitchStall] = s.ft[fHitchStall]) ∧
    (h.state = .lockedOut ∨ h.state = .held → gives [] fun t =>
      t.hc = held ∧ t.vo = s.vo ∧ t.ft[fHitchStall] = s.ft[fHitchStall]) ∧
    (h.state = .stopped → ¬leaves → gives (endedNote s fHitchStall) fun t =>
      t.hc = held ∧ t.vo = s.vo ∧ t.ft[fHitchStall] = (ftEnd fHitchStall s).ft[fHitchStall]) ∧
    (h.state = .stopped → leaves → gives (endedNote s fHitchStall ++ changes 0) fun t =>
      t.hc = { held with
          stopStall := false, prev := .stopped, state := .lockedOut, changeTime := s.time, ret := .lockedOut
          raiseCmd := 0, lowerCmd := 0 }
        ∧ drives t ∧ t.ft[fHitchStall] = (ftEnd fHitchStall s).ft[fHitchStall])


/-! ### Trailer braking (R177 to R195) -/

/-- TRAILER_MODE is refused by a code out of range or by a change to PARK before standstill, changes nothing when it
repeats the mode and presence, and else aborts a line check, applies both, drops verified with the trailer, makes
pre-brake OFF outside ROAD or without a trailer and else tests it against the driveline record as last published, with its
run-out timer, where no PENDING head starts at the same event. It vents the supplementary line, or makes a vented one,
that of an aborted check in PARK among them, CHARGED where TRL_SUPP is valid and at or above 300 and CHARGING where it is
not, and keeps one that is not vented; it opens or closes the charge window, which discards the low hold time and ends an
ACTIVE TRL_SUPP_LOW, posts TRAILER_MODE_CHANGED, after the LINE_CHECK_RESULT of an aborted check, and forms P_cmd as the
greatest of its terms under P_trl_max. Every other field of the brake record stays. The gear window follows: its basis and
gear by mode, presence and verified, capped while a trailer fault stands, with R_max as the reverse cap, and above_window
with it. Each computation of the window posts WINDOW_CHANGED where G_high or the reverse cap changes and then ABOVE_WINDOW
where the flag turns true (R105, R106, R107, R109, R181, R182, R183, R185, R186, R187, R189, R192). It rests on the
model's own choices of log entry 4. -/
def Obligations.TrailerModesAreApplied : Prop :=
  (∀ s : State,
    let l := s.pc.limits
    let b := s.tbc.pub
    let capped := (s.ft[fCtrlDeviation]).state ≠ .clear ∨ (s.ft[fSuppLow]).state ≠ .clear
      ∨ (s.ft[fSuppCharge]).state ≠ .clear
    let basis : Basis := if b.mode ≠ .road then .field
      else if b.present = true ∧ b.verified = false then .unverified else .road
    let gear := if basis = .field then l.gMaxField else if basis = .road then l.gMaxRoad else l.gMaxUnverified
    let high := if capped then min gear l.gMaxUnverified else gear
    let d := s.sc.pub
    let above : Bool := decide (d.dir = .f ∧ high < d.gear)
    let note (k : NoticeKind) (lvl v1 v2 : Nat) : Notice :=
      ⟨k, lvl, .sc, s.time, BitVec.ofNat 16 v1, BitVec.ofNat 16 v2⟩
    let posts :=
      (if high ≠ s.sc.window.gHigh ∨ l.rMax ≠ s.sc.window.reverseCap then [note .windowChanged 1 high l.rMax] else [])
        ++ (if above = true ∧ d.above = false then [note .aboveWindow 2 d.gear high] else [])
    let t := scWindow false s
    t.sc = { s.sc with
        window := ⟨high, l.rMax, basis, decide capped, s.time⟩
        pub := { d with above := above, time := if above = d.above then d.time else s.time } }
      ∧ t.lp = posts.foldl (fun lp n => offerNotice n lp) s.lp ∧ t.ft = s.ft ∧ t.hc = s.hc ∧ t.fdm = s.fdm
      ∧ KeepsMeasures s t) ∧
  (∀ (m : TrailerMode) (present : Bool) (s : State), (s.ft[fSuppLow]).state ≠ .active →
    (applyMode m present s).lp = offerAll ((if s.tbc.cur.check = .idle then [] else
      [noticeOf s .lineCheckResult 1 .tbc 2 0]) ++ [noticeOf s .trailerModeChanged 0 .tbc m.code present.toNat]) s.lp) ∧
  (∀ (f : Request) (s : State), s.undelivered = 0 → s.inRun = true → s.lp.link = .restoredWait → f.len = 2 →
    Answers (.trailerMode f) s 37 f .refusedState [] s) ∧
  (∀ (f : Request) (s : State), InRunUp s → f.len = 2 →
    let b := s.tbc.cur
    let m : TrailerMode := if f.u8 0 = 0 then .park else if f.u8 0 = 1 then .field else .road
    let present := decide (f.u8 1 = 1)
    let inRanges := f.u8 0 ≤ 2 ∧ f.u8 1 ≤ 1
    let moving := m = .park ∧ b.mode ≠ .park ∧ s.me.pub.standstill = false
    let same := m = b.mode ∧ present = b.present
    let opens := present = true ∧ m ≠ .park ∧ (b.mode = .park ∨ b.present = false)
    let closes := (m = .park ∧ b.mode ≠ .park) ∨ (present = false ∧ b.present = true)
    let vented := b.supp = .vented ∨ (b.check ≠ .idle ∧ (b.mode = .park ∨ b.present = false))
    let charged := b.suppValid = true ∧ 300 ≤ b.suppP
    let capped := (s.ft[fCtrlDeviation]).state ≠ .clear ∨ (s.ft[fSuppLow]).state ≠ .clear
      ∨ (s.ft[fSuppCharge]).state ≠ .clear
    let gear := if m ≠ .road then s.pc.limits.gMaxField
      else if present = true ∧ b.verified = false then s.pc.limits.gMaxUnverified
      else s.pc.limits.gMaxRoad
    let body := be8 (f.u8 0) ++ be8 (f.u8 1)
    (¬inRanges → Answers (.trailerMode f) s 37 f .refusedRange [] s) ∧
    (inRanges → moving → Answers (.trailerMode f) s 37 f .refusedCondition [1] s) ∧
    (inRanges → ¬moving → same → Answers (.trailerMode f) s 37 f .ok body s) ∧
    (inRanges → ¬moving → ¬same → s.tbc.cur = s.tbc.pub →
      ∃ t, exec (.trailerMode f) s = .next t ∧ Answered t 37 f.tag .ok body
        ∧ t.tbc.pub = { b with
            time := s.time, mode := m, present := present, check := .idle
            verified := b.verified && (present || !b.present)
            outcome := if b.check = .idle then b.outcome else .aborted
            supp := if m = .park ∨ present = false then .vented else if vented then (if charged then .charged else .charging)
              else b.supp
            chargeOpen := if opens then true else if closes then false else b.chargeOpen
            preBrake := t.tbc.pub.preBrake, pCmd := t.tbc.pub.pCmd }
        ∧ t.tbc.stage = (if b.check = .idle then s.tbc.stage else none)
        ∧ t.tbc.charge = (if opens then some (s.time + 2000000) else if closes then none else s.tbc.charge)
        ∧ (m ≠ .road ∨ present = false → t.tbc.pub.preBrake = .off ∧ t.tbc.runOut = none)
        ∧ (m = .road → present = true → HeadWaits s →
            (Qualifies { b with mode := m, present := present } s.sc.pub →
              t.tbc.pub.preBrake = .active ∧ t.tbc.runOut = none) ∧
            (¬Qualifies { b with mode := m, present := present } s.sc.pub →
              t.tbc.pub.preBrake = (if b.preBrake = .active then .runOut else b.preBrake)
                ∧ t.tbc.runOut = if b.preBrake = .active then some (s.time + 300000) else s.tbc.runOut))
        ∧ (t.vo.chan[chSupp]).command = (if t.tbc.pub.supp = .vented then 0 else 1) ∧ t.tbc.curve = s.tbc.curve
        ∧ t.tbc.pub.pCmd = (if m = .park then s.pc.limits.pTrlMax else
            min s.pc.limits.pTrlMax (max (brakeCurve s.tbc.curve b.pPedal) (max (b.hand * s.pc.limits.pTrlMax / 1000)
              (max (if t.tbc.pub.preBrake = .off then 0 else s.tbc.pPre) (if b.policyOn then s.tbc.pSafe else 0)))))
        ∧ (t.vo.chan[chCtrl]).command = min t.tbc.pub.pCmd 2000
        ∧ t.sc.window.basis = (if m = .road then
            (if present = true ∧ t.tbc.pub.verified = false then .unverified else .road) else .field)
        ∧ t.tbc.lowHold = (if opens ∨ closes then none else s.tbc.lowHold)
        ∧ (opens ∨ closes → (s.ft[fSuppLow]).state = .active → (t.ft[fSuppLow]).state = .latched)
        ∧ t.sc.window.gHigh = (if capped then min gear s.pc.limits.gMaxUnverified else gear)
        ∧ t.sc.window.reverseCap = s.pc.limits.rMax ∧ t.sc.window.faultCap = decide capped ∧ t.sc.window.time = s.time
        ∧ t.sc.pub.above = decide (t.sc.pub.dir = .f ∧ t.sc.window.gHigh < t.sc.pub.gear)
        ∧ t.hc = s.hc ∧ KeepsMeasures s t))

/-- TRAILER_HAND stores the lever, clamped to 1 000, with the link UP or RESTORED_WAIT, and its term enters P_cmd.
LINE_CHECK is refused by the first of its checks that fails and else starts stage 1 with its timer, the supplementary line
open and the test pressure in P_cmd. Every other field of the brake record stays.
The brake curve gives 0 under its first point, its last point's pressure at and above that, and between two points the
straight line from the highest point at or below the pedal pressure to the next (R177, R178, R181, R182, R184, R185, R190).
It rests on the model's own choices of log entries 4 and 22. -/
def Obligations.HandLeverAndLineCheck : Prop :=
  (∀ (p c x : Nat) (pts : List (Nat × Nat)),
    (x < p → brakeCurve ((p, c) :: pts) x = 0) ∧
    ((∀ q ∈ pts, q.1 ≤ x) → p ≤ x → brakeCurve (pts ++ [(p, c)]) x = c) ∧
    (∀ p' c' rest, (∀ q ∈ pts, q.1 ≤ x) → p ≤ x → x < p' → c ≤ c' →
      brakeCurve (pts ++ (p, c) :: (p', c') :: rest) x = c + (c' - c) * (x - p) / (p' - p))) ∧
  (∀ (f : Request) (s : State), Ready s → f.len = 2 → s.inRun = true →
    let hand := min 1000 (f.u16 0)
    let top := s.pc.limits.pTrlMax
    ∃ t, exec (.trailerHand f) s = .next t ∧ Answered t 38 f.tag (if f.u16 0 ≤ 1000 then .ok else .okClamped) (be16 hand)
      ∧ BrakeShows { s.tbc.cur with hand := hand } s t ∧ t.tbc.stage = s.tbc.stage
      ∧ t.tbc.pub.pCmd = (if s.tbc.cur.mode = .park ∧ s.tbc.cur.check = .idle then top else
          min top (max (brakeCurve s.tbc.curve s.tbc.cur.pPedal) (max (hand * top / 1000)
            (max (if t.tbc.pub.preBrake = .off then 0 else s.tbc.pPre)
              (max (if s.tbc.cur.check = .idle then 0 else 1000) (if s.tbc.cur.policyOn then s.tbc.pSafe else 0))))))
      ∧ t.hc = s.hc ∧ KeepsMeasures s t) ∧
  (∀ (f : Request) (s : State), s.undelivered = 0 → s.inRun = true → f.len = 0 →
    s.lp.link = .restoredWait ∨ (s.lp.link = .up ∧ s.tbc.cur.check ≠ .idle) →
    Answers (.lineCheck f) s 39 f .refusedState [] s) ∧
  (∀ (f : Request) (s : State), InRunUp s → f.len = 0 → s.tbc.cur.check = .idle →
    let b := s.tbc.cur
    (∀ i, blockingEntry s.ft .trailer = some i → Answers (.lineCheck f) s 39 f .refusedFault (be8 i.val) s) ∧
    (blockingEntry s.ft .trailer = none →
      let code := if b.present = false then 2 else if b.mode = .road then 3
        else if s.me.pub.standstill = false then 1 else if s.vo.supply = .low then 4 else 0
      (code ≠ 0 → Answers (.lineCheck f) s 39 f .refusedCondition (be8 code) s) ∧
      (code = 0 →
        ∃ t, exec (.lineCheck f) s = .next t ∧ Answered t 39 f.tag .ok (be8 1)
          ∧ BrakeShows { b with
              check := .stage1
              supp := if b.supp = .vented then (if b.suppValid = true ∧ 300 ≤ b.suppP then .charged else .charging)
                else b.supp } s t
          ∧ t.tbc.stage = some (s.time + 1000000)
          ∧ min s.pc.limits.pTrlMax 1000 ≤ t.tbc.pub.pCmd ∧ t.tbc.pub.pCmd ≤ s.pc.limits.pTrlMax
          ∧ t.hc = s.hc ∧ KeepsMeasures s t)))

/-- At a publication of the driveline record the TBC makes pre-brake ACTIVE where the record qualifies, in ROAD with a
trailer, and RUN_OUT with its timer where an ACTIVE one no longer does; P_cmd is formed with P_pre in it, both channels are
written, and a changed brake record is published. The SC publishes a driveline record that has changed, and the TBC takes it
at once. The expiries of the TBC's timers: the charge window closes and leaves TRL_SUPP_CHARGE LATCHED; a line low for 500
ms while stale raises TRL_SUPP_LOW and clears verified, each report followed by the notices of the window it caps; stage 1
fails the line check, stage 2 passes it, each with LINE_CHECK_RESULT posted, a failure after the fault's two notices, the
test term taken out of P_cmd, which is P_trl_max in PARK, and the supplementary line vented in PARK and kept fed elsewhere; a
run-out ends pre-brake and takes its term out of P_cmd in every shift state, while the driveline record does not qualify for it
and a PENDING head still has a cause to wait for. Every other field of the brake record stays (R110, R177, R178, R182, R185,
R186, R187, R189, R191, R193, R197, R198). It rests on the model's own choices of log entries 4, 6 and 31. -/
def Obligations.TrailerTimersExpire : Prop :=
  (∀ s : State,
    let b := s.tbc.cur
    let on := Qualifies b s.sc.pub
    let pre : PreBrake := if on then .active else if b.preBrake = .active then .runOut else b.preBrake
    let cmd := commandOf s.pc.limits.pTrlMax s.tbc pre
    let after : BrakeRecord := { b with preBrake := pre, pCmd := cmd }
    let published := { after with time := s.tbc.pub.time } ≠ s.tbc.pub
    let t := tbcOnDriveline s
    t = { s with vo := t.vo, tbc := t.tbc, undelivered := if published then s.undelivered + 1 else s.undelivered }
      ∧ t.tbc = { s.tbc with
          cur := if published then { after with time := s.time } else after
          pub := if published then { after with time := s.time } else s.tbc.pub
          runOut := if on then none else if b.preBrake = .active then some (s.time + 300000) else s.tbc.runOut
          devHold := if cmd = b.pCmd then s.tbc.devHold else none }
      ∧ (t.vo.chan[chCtrl]).command = min cmd 2000
      ∧ (t.vo.chan[chSupp]).command = (if b.supp = .vented then 0 else 1)
      ∧ (∀ i : Fin 14, i ≠ chCtrl → i ≠ chSupp → t.vo.chan[i] = s.vo.chan[i])) ∧
  (∀ (d : Driveline) (s : State),
    ({ d with time := s.sc.pub.time } = s.sc.pub → scPublish d s = s) ∧
    ({ d with time := s.sc.pub.time } ≠ s.sc.pub →
      scPublish d s = tbcOnDriveline { s with sc := { s.sc with pub := { d with time := s.time } } })) ∧
  (∀ s : State, s.undelivered = 0 → s.inRun = true →
    let b := s.tbc.cur
    let seen := if b.suppValid then b.suppP else 0
    (s.due s.tbc.charge = true →
      ∃ t, exec .chargeWindowExpiry s = .next t ∧ BrakeShows { b with chargeOpen := false } s t ∧ t.tbc.charge = none
        ∧ (t.ft[fSuppCharge]).state = .latched
        ∧ ((s.ft[fSuppCharge]).state = .clear →
            t.ft[fSuppCharge] = ⟨.latched, 1, s.time, s.time, BitVec.ofNat 16 seen⟩)
        ∧ t.sc.window.faultCap = true ∧ t.sc.window.gHigh ≤ s.pc.limits.gMaxUnverified
        ∧ (s.tbc.cur = s.tbc.pub → Posts (if (s.ft[fSuppCharge]).state = .active then endedNote s fSuppCharge ++ windowNotes s b true
            else raisedNote s fSuppCharge seen ++ windowNotes s b true
              ++ [noticeOf s .faultEnded 0 .ft 45 (t.ft[fSuppCharge]).count]) s t)
        ∧ t.hc = s.hc ∧ KeepsMeasures s t) ∧
    ((s.ft[fScanStale]).state = .active → b.mode ≠ .park → b.present = true → b.chargeOpen = false →
      s.heldFor s.tbc.lowHold 500000 = true →
      ∃ t, exec .trlSuppLowHoldExpiry s = .next t ∧ BrakeShows { b with verified := false } s t
        ∧ (t.ft[fSuppLow]).state = .active ∧ t.tbc.lowHold = s.tbc.lowHold
        ∧ ((s.ft[fSuppLow]).state = .clear → t.ft[fSuppLow] = ⟨.active, 1, s.time, s.time, BitVec.ofNat 16 seen⟩)
        ∧ ((s.ft[fSuppLow]).state ≠ .active → t.sc.window.faultCap = true)
        ∧ Posts (raisedNote s fSuppLow seen
            ++ if (s.ft[fSuppLow]).state = .active then [] else windowNotes s s.tbc.pub true) s t
        ∧ t.hc = s.hc ∧ KeepsMeasures s t) ∧
    (s.due s.tbc.stage = true → b.check = .stage1 →
      let failing := if b.ctrlValid = true ∧ 900 ≤ b.ctrl then 3 else 1
      ∃ t, exec .lineCheckStageExpiry s = .next t
        ∧ BrakeShows { b with check := .idle, outcome := .failed, verified := false, supp := suppAfterCheck b } s t
        ∧ t.tbc.stage = none ∧ (t.ft[fLineCheck]).state = .latched
        ∧ ((s.ft[fLineCheck]).state ≠ .active → (t.ft[fLineCheck]).detail = BitVec.ofNat 16 failing)
        ∧ Posts (raisedNote s fLineCheck failing ++ [noticeOf s .faultEnded 0 .ft 46 (t.ft[fLineCheck]).count,
            noticeOf s .lineCheckResult 1 .tbc 1 failing]) s t
        ∧ t.hc = s.hc ∧ KeepsMeasures s t) ∧
    (s.due s.tbc.stage = true → b.check = .stage2 →
      ∃ t, exec .lineCheckStageExpiry s = .next t
        ∧ BrakeShows { b with check := .idle, outcome := .passed, verified := true, supp := suppAfterCheck b } s t
        ∧ t.tbc.stage = none ∧ t.ft[fLineCheck] = s.ft[fLineCheck]
        ∧ Posts [noticeOf s .lineCheckResult 1 .tbc 0 0] s t
        ∧ t.hc = s.hc ∧ KeepsMeasures s t) ∧
    (s.due s.tbc.runOut = true → ¬Qualifies b s.sc.pub → HeadWaits s →
      ∃ t, exec .preBrakeRunOutExpiry s = .next t ∧ BrakeShows { b with preBrake := .off } s t
        ∧ t.tbc.pub.preBrake = .off ∧ t.tbc.runOut = none
        ∧ t.tbc.pub.pCmd = commandOf s.pc.limits.pTrlMax s.tbc .off ∧ Posts [] s t
        ∧ t.sc.pub.state = s.sc.pub.state ∧ t.sc.queue = s.sc.queue ∧ t.sc.shift = s.sc.shift
        ∧ t.hc = s.hc ∧ KeepsMeasures s t))

/-- The TBC at a publication of the snapshot takes its four roles, the pedals' as the lower of two valid ones, and forms
BRAKING; the supplementary line follows its thresholds and a charged line closes the charge window; the deviation test, against
P_cmd as it stood before, and the low test keep, start or discard their hold times, report after 300 ms and 500 ms and end
their entries; a running line check goes from STAGE_1 to STAGE_2 with its reference and held command, fails at stage 2 or 3 or
is aborted by a changed P_cmd. A report or a failure clears verified. P_cmd is then the greatest of its terms, both channels
are written, and a changed record is published. The notices are those of the deviation test, of the low test, each followed by
those of the gear window it caps, and of the line check, in that order, stated where not both tests post (R106, R178, R182,
R185, R186, R187, R188, R191, R193, R194, R197, R198). It rests on the model's own choices of log entries 4, 22, 29 and 31. -/
def Obligations.PublicationsRunTheBrakeTests : Prop :=
  ∀ s : State, s.inRun = true →
    let top := s.pc.limits.pTrlMax
    let b := s.tbc.cur
    let role (r : Fin 16) : Nat := (s.mu.snapshot.entries[r]).value.toNat
    let ok (r : Fin 16) : Bool := (s.mu.snapshot.entries[r]).present && (s.mu.snapshot.entries[r]).valid
      && decide ((s.ft[fScanStale]).state ≠ .active)
    let ctrl := role 10
    let supp := role 11
    let pedal := if ok 12 then (if ok 13 then min (role 12) (role 13) else role 12) else if ok 13 then role 13 else 0
    let line : SuppState := if (b.mode = .park ∧ b.check = .idle) ∨ b.present = false then .vented
      else match b.supp with
        | .vented => .vented
        | .charging => if ok 11 = true ∧ 300 ≤ supp then .charged else .charging
        | .charged => if ok 11 = false ∨ supp < 180 then .charging else .charged
    let closes := b.chargeOpen = true ∧ ok 11 = true ∧ 150 ≤ supp
    let lowTested := b.mode ≠ .park ∧ b.present = true ∧ (b.chargeOpen = false ∨ closes)
    let low := ok 11 = false ∨ supp < 120
    let lowSince := s.tbc.lowHold.getD s.time
    let lowStarts := lowTested ∧ low ∧ lowSince + 500000 ≤ s.time
    let devTested := b.present = true ∧ b.check = .idle ∧ s.vo.supply = .normal ∧ (s.vo.chan[chCtrl]).forced = false
    let dev := ok 10 = true ∧ max 100 (b.pCmd * 15 / 100) < ((ctrl : Int) - b.pCmd).natAbs
    let devSince := s.tbc.devHold.getD s.time
    let devStarts := devTested ∧ dev ∧ devSince + 300000 ≤ s.time
    let t := tbcOnSnapshot s
    let formed (testing : Bool) := min top (max (brakeCurve s.tbc.curve pedal) (max (b.hand * top / 1000)
      (max (if t.tbc.pub.preBrake = .off then 0 else s.tbc.pPre)
        (max (if testing then 1000 else 0) (if b.policyOn then s.tbc.pSafe else 0)))))
    let passes1 := ok 10 = true ∧ 900 ≤ ctrl ∧ ok 11 = true ∧ 150 ≤ supp
    let fails2 := ok 10 = false ∨ ctrl + 50 < s.tbc.reference
    let fails3 := ok 11 = false ∨ supp < 150
    let changed := formed true ≠ s.tbc.heldCmd
    let ended (o : CheckOutcome) := t.tbc.pub.check = .idle ∧ t.tbc.pub.outcome = o ∧ t.tbc.stage = none
    let devNotes := if devStarts then raisedNote s fCtrlDeviation ctrl
      else if devTested ∧ ok 10 = true ∧ ¬dev then endedNote s fCtrlDeviation else []
    let lowNotes := if lowStarts then raisedNote s fSuppLow (if ok 11 then supp else 0)
      else if lowTested ∧ ¬low ∧ 150 ≤ supp then endedNote s fSuppLow else []
    let capped (ns : List Notice) := if ns = [] then [] else ns ++ windowNotes s s.tbc.pub true
    let failNotes (stage : Nat) := raisedNote s fLineCheck stage
      ++ [noticeOf s .faultEnded 0 .ft 46 (t.ft[fLineCheck]).count, noticeOf s .lineCheckResult 1 .tbc 1 stage]
    let checkNotes := if b.check ≠ .stage2 then [] else if fails2 then failNotes 2 else if fails3 then failNotes 3
      else if changed then [noticeOf s .lineCheckResult 1 .tbc 2 0] else []
    let failed (stage : Word16) := ended .failed ∧ (t.ft[fLineCheck]).state = .latched
      ∧ ((s.ft[fLineCheck]).state ≠ .active → (t.ft[fLineCheck]).detail = stage)
    t.tbc.pub.pPedal = pedal ∧ t.tbc.pub.pedalValid = (ok 12 && ok 13)
      ∧ t.tbc.pub.braking = decide (s.tbc.pBrakeOn ≤ pedal)
      ∧ t.tbc.pub.ctrl = ctrl ∧ t.tbc.pub.ctrlValid = ok 10 ∧ t.tbc.pub.suppP = supp ∧ t.tbc.pub.suppValid = ok 11
      ∧ t.tbc.pub.mode = b.mode ∧ t.tbc.pub.present = b.present ∧ t.tbc.pub.hand = b.hand
      ∧ t.tbc.pub.policyOn = b.policyOn
      ∧ (b.check = .idle ∨ t.tbc.pub.check ≠ .idle → t.tbc.pub.supp = line)
      ∧ (b.check ≠ .idle → t.tbc.pub.check = .idle → t.tbc.pub.supp =
          if b.mode = .park ∨ b.present = false then .vented
          else if line = .vented then (if ok 11 = true ∧ 300 ≤ supp then .charged else .charging) else line)
      ∧ t.tbc.pub.chargeOpen = (b.chargeOpen && !decide closes)
      ∧ t.tbc.charge = (if closes then none else s.tbc.charge)
      ∧ t.tbc.lowHold = (if lowTested then (if low then some lowSince else none) else s.tbc.lowHold)
      ∧ (lowStarts → (t.ft[fSuppLow]).state = .active ∧ ((s.ft[fSuppLow]).state ≠ .active →
          (t.ft[fSuppLow]).detail = BitVec.ofNat 16 (if ok 11 then supp else 0)))
      ∧ (lowTested → ¬low → 150 ≤ supp → (s.ft[fSuppLow]).state = .active → (t.ft[fSuppLow]).state = .latched)
      ∧ (¬lowStarts → ¬(lowTested ∧ ¬low ∧ 150 ≤ supp) → t.ft[fSuppLow] = s.ft[fSuppLow])
      ∧ t.tbc.devHold = (if devTested ∧ dev ∧ t.tbc.pub.pCmd = b.pCmd then some devSince else none)
      ∧ (devStarts → (t.ft[fCtrlDeviation]).state = .active ∧ ((s.ft[fCtrlDeviation]).state ≠ .active →
          (t.ft[fCtrlDeviation]).detail = BitVec.ofNat 16 ctrl))
      ∧ (devTested → ok 10 = true → ¬dev → (s.ft[fCtrlDeviation]).state = .active →
          (t.ft[fCtrlDeviation]).state = .latched)
      ∧ (¬devStarts → ¬(devTested ∧ ok 10 = true ∧ ¬dev) → t.ft[fCtrlDeviation] = s.ft[fCtrlDeviation])
      ∧ t.tbc.pub.verified = (b.verified && !decide lowStarts && !decide devStarts
          && !decide (b.check = .stage2 ∧ (fails2 ∨ fails3)))
      ∧ (b.check = .idle → t.tbc.pub.check = .idle ∧ t.tbc.pub.outcome = b.outcome ∧ t.ft[fLineCheck] = s.ft[fLineCheck])
      ∧ (b.check = .stage1 → ¬passes1 → t.tbc.pub.check = .stage1 ∧ t.tbc.stage = s.tbc.stage)
      ∧ (b.check = .stage1 → passes1 → t.tbc.pub.check = .stage2 ∧ t.tbc.stage = some (s.time + 2000000)
          ∧ t.tbc.reference = ctrl ∧ t.tbc.heldCmd = t.tbc.pub.pCmd)
      ∧ (b.check = .stage2 → fails2 → failed 2) ∧ (b.check = .stage2 → ¬fails2 → fails3 → failed 3)
      ∧ (b.check = .stage2 → ¬fails2 → ¬fails3 → changed → ended .aborted)
      ∧ (b.check = .stage2 → ¬fails2 → ¬fails3 → ¬changed → t.tbc.pub.check = .stage2 ∧ t.tbc.stage = s.tbc.stage)
      ∧ t.tbc.pub.pCmd = (if b.mode = .park ∧ t.tbc.pub.check = .idle then top
          else formed (decide (t.tbc.pub.check ≠ .idle)))
      ∧ (t.vo.chan[chCtrl]).command = min t.tbc.pub.pCmd 2000
      ∧ (t.vo.chan[chSupp]).command = (if t.tbc.pub.supp = .vented then 0 else 1)
      ∧ (t.tbc.pub ≠ s.tbc.pub → s.undelivered < t.undelivered ∧ t.tbc.pub.time = s.time)
      ∧ (∀ i : Fin 47, i ≠ fSuppLow → i ≠ fCtrlDeviation → i ≠ fLineCheck → t.ft[i] = s.ft[i])
      ∧ (devNotes = [] ∨ lowNotes = [] → t.lp = offerAll (capped devNotes ++ capped lowNotes ++ checkNotes) s.lp)
      ∧ t.sc.queue = s.sc.queue ∧ t.sc.shift = s.sc.shift ∧ t.fdm = s.fdm ∧ t.hc = s.hc ∧ KeepsMeasures s t

/-! ### Faults (R196 to R203) -/

/-- A start report makes a CLEAR entry ACTIVE with count 1 and its times, a LATCHED one ACTIVE as a new occurrence that
keeps the first time, and leaves an ACTIVE one; an end report makes an ACTIVE entry LATCHED and leaves the others. Each
change posts its notice, and one of the three trailer entries in RUN computes the gear window after it (R197, R198). -/
def Obligations.FaultReportsActByTheEntrysState : Prop :=
  ∀ (i : Fin 47) (detail : Nat) (s : State),
    let e := s.ft[i]
    let d := BitVec.ofNat 16 detail
    let put (e' : FaultEntry) (k : NoticeKind) (lvl v2 : Nat) : State := { s with
      ft := s.ft.set i e'
      lp := offerNotice ⟨k, lvl, .ft, s.time, BitVec.ofNat 16 i.val, BitVec.ofNat 16 v2⟩ s.lp }
    let told (u : State) : State := if (i = 43 ∨ i = 44 ∨ i = 45) ∧ s.inRun = true then scWindow false u else u
    (e.state = .clear → ftStart i detail s =
      told (put ⟨.active, 1, s.time, s.time, d⟩ .faultRaised (faultLevel i) detail)) ∧
    (e.state = .latched → ftStart i detail s =
      told (put ⟨.active, min 255 (e.count + 1), e.first, s.time, d⟩ .faultRaised (faultLevel i) detail)) ∧
    (e.state = .active → ftStart i detail s = s) ∧
    (e.state = .active → ftEnd i s =
      told (put ⟨.latched, e.count, e.first, s.time, e.detail⟩ .faultEnded 0 e.count)) ∧
    (e.state ≠ .active → ftEnd i s = s)

/-- CLEAR_FAULT clears every selected LATCHED entry, leaves the ACTIVE ones, releases the channel of a cleared OUTPUT_FAULT,
and answers how many it cleared and how many selected entries stay ACTIVE, in every shift state, a PENDING head that waits
for its cause going on waiting. A released channel's drive current is formed again, and its owner is told: at RAISE and
LOWER the HC marks it not forced, clears stop OUTPUT once neither is, and leaves STOPPED for LOCKED_OUT with both valves at
0 where its exit test passes, at which a HITCH_STALL is not cleared yet; at FRONT_RELEASE the FDM clears cause OUTPUT. A
trailer entry cleared in RUN makes the SC compute the gear window and above_window; the clear itself posts nothing; a
selector or value out of range is refused. The identities have the numbers, levels, classes and blocking flags of the table
of R200, and the entry that refuses a class of requests is the lowest-numbered ACTIVE or LATCHED one that blocks and is of
that class or of class ALL (R88, R106, R107, R109, R149, R175, R176, R198, R199, R200, R201, R202). -/
def Obligations.ClearFaultClearsLatchedEntries : Prop :=
  (let same (n : Nat) (x : Nat) := List.replicate n x
    let levels := [3] ++ [1] ++ same 16 2 ++ [3, 1] ++ same 3 2 ++ same 14 3 ++ same 3 2 ++ same 2 3 ++ [2] ++ same 2 3
      ++ same 2 2
    let classes := same 2 4 ++ same 9 0 ++ same 5 4 ++ [1, 4, 5, 4, 0] ++ same 2 4 ++ same 9 0 ++ same 2 1 ++ [2]
      ++ same 2 3 ++ [4] ++ same 4 0 ++ [1, 3, 4, 4, 3]
    let blocks (i : Nat) : Bool := i ∈ [16, 18, 20, 46] ∨ (23 ≤ i ∧ i ≤ 36) ∨ (38 ≤ i ∧ i ≤ 43)
    (∀ i : Fin 47, faultLevel i = levels.getD i 0 ∧ (faultClass i).code = classes.getD i 0
      ∧ faultBlocking i = blocks i) ∧
    [fLinkLost, fEngineStale, fScanStale, fDraftInvalid, fInput, fFront, fRadar, fSupplyLow, fFillTimeout, fSyncTimeout,
      fRecoveryFailed, fClutchSlip, fHitchStall, fCtrlDeviation, fSuppLow, fSuppCharge, fLineCheck].map Fin.val =
      [0, 1, 18, 19, 20, 21, 22, 37, 38, 39, 40, 41, 42, 43, 44, 45, 46] ∧
    (∀ r : Fin 16, (fSensorRange r).val = 2 + r.val) ∧ (∀ c : Fin 14, (fOutput c).val = 23 + c.val)) ∧
  (∀ (ft : Vector FaultEntry 47) (k : FaultClass),
    let refuses (i : Fin 47) := faultBlocking i = true ∧ (ft[i]).state ≠ .clear ∧ (faultClass i = k ∨ faultClass i = .all)
    (∀ i, blockingEntry ft k = some i ↔ refuses i ∧ ∀ j, j < i → ¬refuses j) ∧
    (blockingEntry ft k = none ↔ ∀ i, ¬refuses i)) ∧
  (∀ (f : Request) (s : State), Ready s → f.len = 2 →
    let inRanges := (f.u8 0 = 0 ∧ f.u8 1 ≤ 46) ∨ (f.u8 0 = 1 ∧ f.u8 1 ≤ 3) ∨ f.u8 0 = 2
    let picks (i : Fin 47) := f.u8 0 = 2 ∨ (f.u8 0 = 0 ∧ i.val = f.u8 1)
      ∨ (f.u8 0 = 1 ∧ ((faultClass i).code = f.u8 1 ∨ i = fScanStale))
    let clears (i : Fin 47) := picks i ∧ (s.ft[i]).state = .latched
    let raise := s.hc.raiseForced && !decide (clears (fOutput chRaise))
    let lower := s.hc.lowerForced && !decide (clears (fOutput chLower))
    let hitchTold := clears (fOutput chRaise) ∨ clears (fOutput chLower)
    let blocked (i : Fin 47) := faultBlocking i = true ∧ (faultClass i = .hitch ∨ faultClass i = .all)
      ∧ (s.ft[i]).state ≠ .clear ∧ ¬(clears i ∧ i ≠ fHitchStall)
    let leaves := hitchTold ∧ s.hc.state = .stopped ∧ s.hc.stopPosition = false ∧ raise = false ∧ lower = false
      ∧ ∀ i, ¬blocked i
    let told : Hitch := { s.hc with
      raiseForced := raise, lowerForced := lower
      stopOutput := if hitchTold then s.hc.stopOutput && (raise || lower) else s.hc.stopOutput }
    let trailer := clears fCtrlDeviation ∨ clears fSuppLow ∨ clears fSuppCharge
    (¬inRanges → Answers (.clearFault f) s 40 f .refusedRange [] s) ∧
    (inRanges → (s.sc.pub.state = .pending → ∀ e rest, s.sc.queue = e :: rest → s.vo.supply = .low
        ∨ (e.dir = s.sc.pub.dir ∧ s.sc.pub.gear < e.gear ∧ s.tbc.cur.braking = true ∧ s.tbc.pub.braking = true)) →
      ∃ t, exec (.clearFault f) s = .next t
        ∧ Answered t 40 f.tag .ok (be8 ((List.finRange 47).countP fun i => decide (clears i))
            ++ be8 ((List.finRange 47).countP fun i => decide (picks i ∧ (s.ft[i]).state = .active)))
        ∧ (∀ i : Fin 47, t.ft[i] = if clears i then {} else s.ft[i])
        ∧ (∀ c : Fin 14, (t.vo.chan[c]).forced = if clears (fOutput c) then false else (s.vo.chan[c]).forced)
        ∧ (∀ c : Fin 14, (t.vo.chan[c]).charac = (s.vo.chan[c]).charac)
        ∧ t.sc.pub.state = s.sc.pub.state ∧ t.sc.queue = s.sc.queue ∧ t.sc.shift = s.sc.shift
        ∧ (∀ c : Fin 14, clears (fOutput c) → (t.vo.chan[c]).offHold = none
            ∧ (t.vo.chan[c]).drive = driveCurrent s.pc.part s.vo.supply c t.vo.chan[c])
        ∧ (∀ c : Fin 14, c.val < 11 → (t.vo.chan[c]).command = if leaves ∧ 9 ≤ c.val then 0 else (s.vo.chan[c]).command)
        ∧ t.hc = (if leaves then { told with
            prev := .stopped, state := .lockedOut, changeTime := s.time, ret := .lockedOut, stopStall := false
            raiseCmd := 0, lowerCmd := 0 } else told)
        ∧ t.fdm.causeOutput = (s.fdm.causeOutput && !decide (clears (fOutput chFront)))
        ∧ t.fdm.causeConfig = s.fdm.causeConfig ∧ t.fdm.causeSupply = s.fdm.causeSupply
        ∧ t.fdm.causeLink = s.fdm.causeLink
        ∧ (BrakeQuiet s → ¬trailer → t.fdm = { s.fdm with
            causeOutput := s.fdm.causeOutput && !decide (clears (fOutput chFront)) })
        ∧ (BrakeQuiet s → ¬trailer → t.lp.notices =
            (offerAll (if leaves then [noticeOf s .hitchState 0 .hc 0 6] else []) s.lp).notices)
        ∧ (s.inRun = true → trailer →
            let l := s.pc.limits
            let b := t.tbc.pub
            let capped := (t.ft[fCtrlDeviation]).state ≠ .clear ∨ (t.ft[fSuppLow]).state ≠ .clear
              ∨ (t.ft[fSuppCharge]).state ≠ .clear
            let basis : Basis := if b.mode ≠ .road then .field
              else if b.present = true ∧ b.verified = false then .unverified else .road
            let gear := if basis = .field then l.gMaxField else if basis = .road then l.gMaxRoad else l.gMaxUnverified
            t.sc.window = ⟨if capped then min gear l.gMaxUnverified else gear, l.rMax, basis, decide capped, s.time⟩
              ∧ t.sc.pub.above = decide (t.sc.pub.dir = .f ∧ t.sc.window.gHigh < t.sc.pub.gear))
        ∧ (s.tbc.cur = s.tbc.pub → t.tbc.pub.mode = s.tbc.pub.mode ∧ t.tbc.pub.present = s.tbc.pub.present
            ∧ t.tbc.pub.verified = s.tbc.pub.verified)
        ∧ KeepsMeasures s t))

/-! ### Measurement (R40 to R62) and motion (R63 to R72) -/

/-- A conversion starts on its deadline and ends T_d later, the next following at once with chop off; a conversion
before the filter has settled only counts; with chop on the settled one of a phase reverses the excitation, restarts
the filter and makes the comparator ignore two samples, whether it gives a result with an earlier phase (as
DraftResultsRunTheControlLaw says) or is the first; in TRACK the start of a conversion starts a scan run where
none is in progress, whose first conversion begins at once where the delay is 0, the model's reading of log entry 17 (R40, R41,
R48, R51). It rests on the model's own choices of log entries 6 and 17. -/
def Obligations.ConversionsStartSettleAndReverse : Prop :=
  (∀ s : State, s.undelivered = 0 → s.mu.dc.running = true → ∀ d, s.mu.dc.startDue = some d → d ≤ s.time →
    let dc := s.mu.dc
    let period := s.mu.cfg.tD * 1000
    let conv : DraftConv := { dc with
      started := if s.mu.cfg.chop then dc.started + 1 else 0
      startDue := if s.mu.cfg.chop = true ∧ 2 ≤ dc.started then none else some (d + period)
      ends := dc.ends ++ [d + period] }
    let tracks := s.inRun = true ∧ s.mu.scanMode = .track ∧ s.mu.run = none
    (¬tracks → exec .conversionStart s = .next { s with mu := { s.mu with dc := conv } }) ∧
    (∀ i : Fin 16, tracks → (s.mu.steps[i]).enabled = true → (∀ j : Fin 16, j < i → (s.mu.steps[j]).enabled = false) →
      exec .conversionStart s = .next { s with mu := { s.mu with
        dc := conv
        run := some ⟨s.mu.steps, s.mu.muxDelay, i, decide (s.mu.muxDelay = 0), s.time, .replicate 16 none⟩ } })) ∧
  (∀ (l r : BitVec 13) (s : State), s.undelivered = 0 → s.mu.dc.running = true →
    ∀ due rest, s.mu.dc.ends = due :: rest → due ≤ s.time →
    let dc := s.mu.dc
    let gap := if s.mu.cfg.chopDelay = 0 then 0 else if s.mu.cfg.chopDelay = 1 then 500
      else if s.mu.cfg.chopDelay = 2 then 1000 else 2000
    (dc.settled < 2 → exec (.conversionEnd l r) s =
      .next { s with mu := { s.mu with dc := { dc with ends := rest, settled := dc.settled + 1 } } }) ∧
    (2 ≤ dc.settled → s.mu.cfg.chop = true → dc.prev = none → exec (.conversionEnd l r) s =
      .next { s with mu := { s.mu with
        dc := { dc with
          ends := rest, negative := !dc.negative, settled := 0, started := 0, startDue := some (due + gap)
          prev := some (l.toInt, r.toInt) }
        foc := { s.mu.foc with ignored := 2 } } }) ∧
    (2 ≤ dc.settled → s.mu.cfg.chop = true → ∀ p, dc.prev = some p → ∃ t, exec (.conversionEnd l r) s = .next t
      ∧ t.mu.dc = { dc with
          ends := rest, negative := !dc.negative, settled := 0, started := 0, startDue := some (due + gap)
          prev := some (l.toInt, r.toInt) }
      ∧ t.mu.foc = { s.mu.foc with ignored := 2 } ∧ t.mu.draft.latest.isSome = true))

/-- The scan sequencer converts a step after its delay, goes to the next enabled step, and aborts a run whose conversion
lasts 2 ms. The last conversion files each role's count by its highest-numbered step into the snapshot, scaled and clamped
where valid and with the held value and its age where not. In CONTINUOUS in RUN a run that ends, by its last conversion or
by a timeout, starts the next from the first enabled step; in CONFIG a completed run posts SCAN_DONE (R50, R51, R52, R54,
R55, R57, R58). That the age is the difference of the true times, truncated to ms after it is formed, is the model's reading
of log entry 24. It rests on the model's own choices of log entries 6, 17, 24 and 33. -/
def Obligations.ScanRunsFillTheSnapshot : Prop :=
  ∀ s : State, s.undelivered = 0 → ∀ run, s.mu.run = some run →
    let going := s.inRun = true ∧ s.mu.scanMode = .continuous
    let first (i : Fin 16) := (s.mu.steps[i]).enabled = true ∧ ∀ j : Fin 16, j < i → (s.mu.steps[j]).enabled = false
    let fresh (i : Fin 16) : ScanRun :=
      ⟨s.mu.steps, s.mu.muxDelay, i, decide (s.mu.muxDelay = 0), s.time, .replicate 16 none⟩
    (run.converting = false → run.since + run.delay * 100 ≤ s.time →
      exec .scanStepDelayEnd s =
        .next { s with mu := { s.mu with run := some { run with converting := true, since := s.time } } }) ∧
    (run.converting = true → run.since + 2000 ≤ s.time → ¬going →
      exec .scanConversionTimeout s = .next { s with mu := { s.mu with run := none } }) ∧
    (∀ i : Fin 16, run.converting = true → run.since + 2000 ≤ s.time → going → first i →
      exec .scanConversionTimeout s = .next { s with mu := { s.mu with run := some (fresh i) } }) ∧
    ∀ raw : BitVec 12, run.converting = true → run.since + 500 ≤ s.time →
      let counts := run.counts.set run.stepAt (some raw.toNat)
      (∀ i : Fin 16, run.stepAt < i → (run.steps[i]).enabled = true →
        (∀ j : Fin 16, run.stepAt < j → j < i → (run.steps[j]).enabled = false) →
        exec (.scanStepConversionEnd raw) s = .next { s with mu := { s.mu with run := some { run with
          counts := counts, stepAt := i, converting := decide (run.delay = 0), since := s.time } } }) ∧
      ((∀ j : Fin 16, run.stepAt < j → (run.steps[j]).enabled = false) →
        (going → ∃ i : Fin 16, (s.mu.steps[i]).enabled = true) →
        ∃ t, exec (.scanStepConversionEnd raw) s = .next t ∧ (¬going → t.mu.run = none)
          ∧ (∀ i : Fin 16, going → first i → t.mu.run = some (fresh i))
          ∧ t.mu.runCounter = (s.mu.runCounter + 1) % 65536 ∧ t.mu.snapshot.run = t.mu.runCounter
          ∧ t.mu.snapshot.time = s.time ∧ t.mu.steps = s.mu.steps ∧ t.mu.scales = s.mu.scales ∧ t.mu.pulse = s.mu.pulse
          ∧ (s.inRun = true → t.mu.stale = some (s.time + 50000)) ∧ (s.inRun = false → t.mu.stopPending = false)
          ∧ (s.inRun = false → t.ft = s.ft → t.lp = offerAll [noticeOf s .scanDone 0 .mu t.mu.runCounter 0] s.lp)
          ∧ t.time = s.time ∧ t.pc = s.pc ∧ t.me = s.me
          ∧ ∀ r : Fin 16,
            ((∀ i : Fin 16, ¬((run.steps[i]).enabled = true ∧ (run.steps[i]).role = r.val)) →
              t.mu.snapshot.entries[r] = {}) ∧
            ∀ i : Fin 16, (run.steps[i]).enabled = true → (run.steps[i]).role = r.val →
              (∀ j : Fin 16, i < j → ¬((run.steps[j]).enabled = true ∧ (run.steps[j]).role = r.val)) →
              let n := (counts[i]).getD 0
              let sc := s.mu.scales[r]
              let bounds : Int × Int := if r.val ≤ 8 then (0, 250) else if r.val = 9 then (0, 300)
                else if r.val = 14 then (0, 1000) else if r.val = 15 then (-600, 600) else (0, 2000)
              t.mu.snapshot.entries[r] =
                if 80 ≤ n ∧ n ≤ 4015 then
                  ⟨true, max bounds.1 (min bounds.2 ((((n : Int) - sc.offset) * sc.gain).tdiv 1024)), true, 0⟩
                else
                  match (s.mu.mem[r]).held with
                  | some (v, t0) => ⟨true, v, false, min 65535 ((s.time - t0) / 1000)⟩
                  | none => ⟨true, 0, false, 65535⟩)

/-- In RUN the last conversion of a scan run publishes the snapshot and hands it to the VO, the HC and the TBC; before that
the staleness timer starts again, the third invalid run of a role raises its SENSOR_RANGE with the end of the range its count
lay at, a valid run after three ends it, and an ACTIVE SCAN_STALE ends, each with its notice and in this order, which for the
roles is the model's of log entry 11. The HC takes the position: a valid one clears stop POSITION, and an absent or invalid one
sets it and stops the hitch with both valves at 0. The brake record publications of all this are delivered at its end, which is
the model's reading of log entry 4 (R55, R58, R59, R60, R90, R153, R158, R174, R178). It rests on the model's own choices of log
entries 4, 6, 11, 21 and 33. -/
def Obligations.SnapshotPublicationsReachTheJobs : Prop :=
  (∀ (raw : BitVec 12) (s : State), s.undelivered = 0 → s.inRun = true → ∀ run, s.mu.run = some run →
    run.converting = true → run.since + 500 ≤ s.time →
    (∀ j : Fin 16, run.stepAt < j → (run.steps[j]).enabled = false) →
    (s.mu.scanMode = .continuous → ∃ i : Fin 16, (s.mu.steps[i]).enabled = true) →
    let counts := run.counts.set run.stepAt (some raw.toNat)
    let latched (e : FaultEntry) : FaultEntry :=
      if e.state = .active then { e with state := .latched, last := s.time } else e
    ∃ u next, (exec (.scanStepConversionEnd raw) s = .next (settle
        (let w := tbcOnSnapshot (hcOnSnapshot (voOnSnapshot u)); { w with mu := { w.mu with run := next } })))
      ∧ u = { s with mu := u.mu, ft := u.ft, lp := u.lp }
      ∧ u.mu = { s.mu with
          run := none, runCounter := (s.mu.runCounter + 1) % 65536, snapshot := u.mu.snapshot, mem := u.mu.mem
          stale := some (s.time + 50000) }
      ∧ u.mu.snapshot.run = u.mu.runCounter ∧ u.mu.snapshot.time = s.time
      ∧ (s.mu.scanMode ≠ .continuous → next = none)
      ∧ u.ft[fScanStale] = latched s.ft[fScanStale]
      ∧ (∀ i : Fin 47, i.val < 2 ∨ 18 < i.val → u.ft[i] = s.ft[i])
      ∧ u.lp = offerAll ((List.finRange 16).flatMap (fun r : Fin 16 =>
          let x := u.mu.snapshot.entries[r]
          let n := (s.mu.mem[r]).invalid
          if x.present = false then [] else if x.valid = true then (if 3 ≤ n then endedNote s (fSensorRange r) else [])
          else if n = 2 then raisedNote s (fSensorRange r) (u.ft[fSensorRange r]).detail.toNat else [])
        ++ endedNote s fScanStale) s.lp
      ∧ ∀ r : Fin 16,
        let n := (s.mu.mem[r]).invalid
        ((∀ i : Fin 16, ¬((run.steps[i]).enabled = true ∧ (run.steps[i]).role = r.val)) →
          u.mu.snapshot.entries[r] = {} ∧ u.mu.mem[r] = ⟨none, none, n⟩
            ∧ u.ft[fSensorRange r] = s.ft[fSensorRange r]) ∧
        ∀ i : Fin 16, (run.steps[i]).enabled = true → (run.steps[i]).role = r.val →
          (∀ j : Fin 16, i < j → ¬((run.steps[j]).enabled = true ∧ (run.steps[j]).role = r.val)) →
          let k := (counts[i]).getD 0
          let x := u.mu.snapshot.entries[r]
          x.present = true ∧ x.valid = decide (80 ≤ k ∧ k ≤ 4015) ∧
          (x.valid = true → u.mu.mem[r] = ⟨some (x.value, s.time), none, 0⟩ ∧
            u.ft[fSensorRange r] = if 3 ≤ n then latched s.ft[fSensorRange r] else s.ft[fSensorRange r]) ∧
          (x.valid = false →
            u.mu.mem[r] = ⟨(s.mu.mem[r]).held, some (if k < 80 then .low else .high), min 255 (n + 1)⟩ ∧
            (n ≠ 2 → u.ft[fSensorRange r] = s.ft[fSensorRange r]) ∧
            (n = 2 → (u.ft[fSensorRange r]).state = .active ∧ ((s.ft[fSensorRange r]).state ≠ .active →
              (u.ft[fSensorRange r]).detail = if k < 80 then 0 else 1)))) ∧
  (∀ s : State,
    let x := s.mu.snapshot.entries[rolePos]
    let ok := x.present && x.valid
    let taken : Hitch := { s.hc with pos := x.value.toNat, posValid := ok, stopPosition := !ok }
    let t := hcOnSnapshot s
    (ok = true ∨ s.hc.state = .stopped → t = { s with hc := taken }) ∧
    (ok = false → s.hc.state ≠ .stopped →
      t = { s with lp := t.lp, hc := t.hc, vo := t.vo }
        ∧ t.hc = { taken with
            prev := s.hc.state, state := .stopped, changeTime := s.time, ret := .lockedOut, raiseCmd := 0, lowerCmd := 0
            shockTimer := if s.hc.state = .shock then none else s.hc.shockTimer
            stall := if s.hc.state = .control then none else s.hc.stall
            reached := s.hc.reached && decide (s.hc.state ≠ .transport) }
        ∧ t.lp = offerNotice ⟨.hitchState, 0, .hc, s.time, 6, BitVec.ofNat 16 s.hc.state.code⟩ s.lp
        ∧ (∀ j : Fin 14, (t.vo.chan[j]).command = if j = chRaise ∨ j = chLower then 0 else (s.vo.chan[j]).command)))

/-- At a publication the supply monitor judges the condition its state waits for: it keeps, starts or discards its hold
time, and after 100 ms changes the state, posts SUPPLY_CHANGED, starts or ends SUPPLY_LOW and tells the SC, the FDM, the HC
and the TBC. The SC withdraws a shift in a FILL step at LOW: to RECOVERING without a timeout fault and with the queue
emptied, an ENGAGE to ABORTING with SHIFT_DROPPED, and a DISENGAGE goes on, as every shift does past its FILL steps or with
the supply NORMAL. The FDM sets or clears its cause and is FORCED at LOW. The HC holds the hitch at LOW with both valves at
0, and at NORMAL leaves HELD for its return state, RAISE formed for it, once no other cause is set. The TBC aborts a running
line check at LOW, its test term out of P_cmd, and forms and publishes its record at every supply change
(R81, R90, R91, R92, R118, R128, R130, R133, R149, R169, R172, R192). It rests on the model's own choices of log entries 11,
13, 14 and, where it leaves HELD for TRANSPORT by the transport-reached flag as it stands, 39. -/
def Obligations.SupplyChangesReachTheJobs : Prop :=
  (∀ s : State,
    let x := s.mu.snapshot.entries[roleSupply]
    let ok := x.present = true ∧ x.valid = true ∧ (s.ft[fScanStale]).state ≠ .active
    let low := s.vo.supply = .low
    let holds := if low then ok ∧ (s.vo.pOk : Int) ≤ x.value else ¬ok ∨ x.value < s.vo.pLow
    let since := s.vo.supplyHold.getD s.time
    let shown := if x.present = true ∧ x.valid = true then x.value.toNat else 0
    let keeps (h : Option Nat) : State := { s with vo := { s.vo with supplyHold := h } }
    (¬holds → voOnSnapshot s = keeps none) ∧
    (holds → s.time < since + 100000 → voOnSnapshot s = keeps (some since)) ∧
    (holds → since + 100000 ≤ s.time →
      let front := s.vo.chan[chFront]
      let drive := if ¬low ∨ s.inRun = false ∨ front.forced = true ∨ front.command = 0 then 0
        else (front.charac.map Charac.a).getD 0
      let v : State := { s with
        vo := { s.vo with
          supply := if low then .normal else .low, supplyHold := none
          chan := s.vo.chan.set chFront ({ front with drive := drive }) }
        lp := offerNotice ⟨.supplyChanged, 2, .vo, s.time, if low then 0 else 1, BitVec.ofNat 16 shown⟩ s.lp }
      voOnSnapshot s = tbcOnSupply (hcOnSupply (fdmOnSupply (scOnSupply
        (if low then ftEnd fSupplyLow v else ftStart fSupplyLow shown v)))))) ∧
  (∀ s : State,
    let t := scOnSupply s
    let withdrawn := s.sc.pub.state = .stepping ∧ s.vo.supply = .low ∧ s.sc.pub.phase = .fill
    (s.sc.pub.state ≠ .pending → ¬withdrawn → t = s) ∧
    (withdrawn → ∀ run, s.sc.shift = some run →
      (s.sc.pub.kind = .disengage → t = s) ∧
      (s.sc.pub.kind = .speed ∨ s.sc.pub.kind = .range ∨ s.sc.pub.kind = .shuttle →
        t.sc.pub.state = .recovering ∧ t.sc.pub.phase = .none ∧ t.sc.pub.kind = s.sc.pub.kind
          ∧ t.sc.pub.dir = s.sc.pub.dir ∧ t.sc.pub.gear = s.sc.pub.gear ∧ t.sc.queue = [] ∧ t.sc.timeoutFault = none
          ∧ t.sc.shift = some { run with
              onA := none, offA := none, onB := none, offB := none, entry := s.time, applied := 200, sync := 0
              entryP := .ofFn fun c => (s.vo.chan[clutchChan c]).command }
          ∧ (∀ c : Fin 9, (t.vo.chan[clutchChan c]).command =
              if c ∈ engagedSet s.sc.gears run.prevDir run.prevGear then min 250 (s.vo.chan[clutchChan c]).command
              else 0)
          ∧ t.sc.modDue = s.sc.modDue ∧ t.ft = s.ft ∧ t.lp = s.lp ∧ t.hc = s.hc ∧ t.fdm = s.fdm ∧ KeepsMeasures s t) ∧
      (s.sc.pub.kind = .engage →
        t.sc.pub.state = .aborting ∧ t.sc.pub.dir = .n ∧ t.sc.pub.gear = 0 ∧ t.sc.pub.above = false
          ∧ t.sc.queue = s.sc.queue ∧ t.sc.shift = none ∧ t.sc.modDue = none ∧ t.sc.dump = some (s.time + 100000)
          ∧ (∀ c : Fin 9, (t.vo.chan[clutchChan c]).command = 0)
          ∧ t.lp = offerNotice ⟨.shiftDropped, 2, .sc, s.time, BitVec.ofNat 16 run.tgtGear, 0⟩ s.lp
          ∧ t.ft = s.ft ∧ t.hc = s.hc ∧ t.fdm = s.fdm ∧ KeepsMeasures s t))) ∧
  (∀ s : State,
    let t := fdmOnSupply s
    (s.vo.supply = .normal → t = { s with fdm := { s.fdm with causeSupply := false } }) ∧
    (s.vo.supply = .low → s.fdm.state = .forced → t = { s with fdm := { s.fdm with causeSupply := true } }) ∧
    (s.vo.supply = .low → s.fdm.state ≠ .forced →
      t = { s with lp := t.lp, fdm := t.fdm, vo := t.vo }
        ∧ t.fdm = { s.fdm with
            causeSupply := true, prev := s.fdm.state, state := .forced, changeTime := s.time, waitStart := 0, wait := none }
        ∧ t.lp = offerNotice ⟨.frontChanged, 0, .fdm, s.time, 3, BitVec.ofNat 16 s.fdm.state.code⟩ s.lp
        ∧ (t.vo.chan[chFront]).command = 0 ∧ (∀ j : Fin 14, j ≠ chFront → t.vo.chan[j] = s.vo.chan[j]))) ∧
  (∀ s : State,
    let h := s.hc
    let t := hcOnSupply s
    let lifts := h.state = .control ∨ h.state = .shock ∨ h.state = .headland ∨ h.state = .transport
    let returns := h.state = .held ∧ h.causeRequest = false ∧ h.causeLink = false
    let hard := s.pc.limits.pHitchUpperHard
    let drives := t = { s with lp := t.lp, hc := t.hc, vo := t.vo }
      ∧ t.lp = offerAll [noticeOf s .hitchState 0 .hc t.hc.state.code h.state.code] s.lp
      ∧ (t.vo.chan[chRaise]).command = min t.hc.raiseCmd 1000 ∧ (t.vo.chan[chLower]).command = 0
      ∧ (∀ j : Fin 14, j ≠ chRaise → j ≠ chLower → t.vo.chan[j] = s.vo.chan[j])
    (s.vo.supply = .low → ¬lifts → t = { s with hc := { h with causeSupply := true } }) ∧
    (s.vo.supply = .low → lifts → drives ∧ t.hc = { h with
      causeSupply := true, prev := h.state, state := .held, changeTime := s.time
      ret := if h.state = .shock then .control else h.state, raiseCmd := 0, lowerCmd := 0
      shockTimer := if h.state = .shock then none else h.shockTimer
      stall := if h.state = .control then none else h.stall }) ∧
    (s.vo.supply = .normal → ¬returns → t = { s with hc := { h with causeSupply := false } }) ∧
    (s.vo.supply = .normal → returns →
      h.ret = .lockedOut ∨ h.ret = .control ∨ h.ret = .headland ∨ h.ret = .transport → drives ∧ t.hc = { h with
      causeSupply := false, prev := .held, state := h.ret, changeTime := s.time, ret := .lockedOut, lowerCmd := 0
      heldDraft := if h.ret = .control then none else h.heldDraft
      reached := h.reached || decide (h.ret = .transport ∧ hard ≤ h.pos)
      raiseCmd := if (h.ret = .headland ∧ h.pos < min h.cfg.pUp hard)
        ∨ (h.ret = .transport ∧ h.reached = false ∧ h.pos < hard) then h.cfg.vMax else 0 })) ∧
  (∀ s : State,
    let b := s.tbc.cur
    let t := tbcOnSupply s
    let aborts := s.vo.supply = .low ∧ b.check ≠ .idle
    BrakeStands (if aborts then checkAborted b else b) s t ∧ t.tbc.pub.preBrake = b.preBrake
      ∧ t.tbc.stage = (if aborts then none else s.tbc.stage)
      ∧ t.lp = offerAll (if aborts then [noticeOf s .lineCheckResult 1 .tbc 2 0] else []) s.lp
      ∧ t.sc = s.sc ∧ t.ft = s.ft ∧ t.fdm = s.fdm ∧ t.hc = s.hc ∧ KeepsMeasures s t)

/-- SCAN_STALE_EXPIRY raises SCAN_STALE and stops the hitch, both commands and both channels at 0; a hitch already STOPPED only
takes the position as invalid. It makes the TBC's roles invalid with their values kept: no pedal pressure, BRAKING false, P_cmd
formed again, a charged supplementary line CHARGING, the deviation hold time discarded with its entry as it was, and a running
line check aborted with its notice. It starts the supply monitor's qualification and the low hold time of the supplementary
line, which reports nothing there and clears no verified. SUPPLY_QUALIFICATION_EXPIRY makes the supply LOW, holds FRONT_RELEASE
off, posts SUPPLY_CHANGED, raises SUPPLY_LOW and tells the SC, the FDM, the HC and the TBC, in that order (R60, R90, R92, R149,
R153, R158, R178, R182, R185, R187, R188, R192). It rests on the model's own choices of log entries 4, 6, 11, 29, 30
and 36. -/
def Obligations.StaleScanAndLostSupply : Prop :=
  ∀ s : State, s.undelivered = 0 → s.inRun = true →
    let h := s.hc
    let b := s.tbc.cur
    let park := b.mode = .park ∨ b.present = false
    let old := h.state
    (s.due s.mu.stale = true →
      ∃ t p, exec .scanStaleExpiry s = .next t ∧ t = settle p
        ∧ p = { s with
            mu := { s.mu with stale := none }, ft := p.ft, vo := p.vo, hc := p.hc, tbc := p.tbc, undelivered := p.undelivered
            lp := offerAll (raisedNote s fScanStale 0
              ++ (if old = .stopped then [] else [noticeOf s .hitchState 0 .hc 6 old.code])
              ++ if b.check = .idle then [] else [noticeOf s .lineCheckResult 1 .tbc 2 0]) s.lp }
        ∧ (t.ft[fScanStale]).state = .active ∧ (∀ j : Fin 47, j ≠ fScanStale → p.ft[j] = s.ft[j])
        ∧ t.mu = p.mu ∧ t.hc = p.hc ∧ t.vo.supply = s.vo.supply
        ∧ (old = .stopped → t.hc = { h with posValid := false, stopPosition := true }
          ∧ t.vo.chan[chRaise] = s.vo.chan[chRaise] ∧ t.vo.chan[chLower] = s.vo.chan[chLower])
        ∧ (old ≠ .stopped →
            t.hc = { h with
                posValid := false, stopPosition := true, prev := old, state := .stopped, changeTime := s.time
                ret := .lockedOut, raiseCmd := 0, lowerCmd := 0, shockTimer := if old = .shock then none else h.shockTimer
                stall := if old = .control then none else h.stall, reached := h.reached && decide (old ≠ .transport) }
              ∧ (t.vo.chan[chRaise]).command = 0 ∧ (t.vo.chan[chLower]).command = 0)
        ∧ t.vo.supplyHold = (if s.vo.supply = .normal then some (s.vo.supplyHold.getD s.time) else none)
        ∧ BrakeShows { b with
            ctrlValid := false, suppValid := false, pedalValid := false, pPedal := 0
            braking := decide (s.tbc.pBrakeOn = 0), check := .idle
            outcome := if b.check = .idle then b.outcome else .aborted
            supp := if park ∨ (b.supp = .vented ∧ b.check = .idle) then .vented else .charging } s t
        ∧ (1 ≤ s.tbc.pBrakeOn → t.tbc.pub.braking = false)
        ∧ t.tbc.stage = (if b.check = .idle then s.tbc.stage else none)
        ∧ t.tbc.devHold = none ∧ t.ft[fCtrlDeviation] = s.ft[fCtrlDeviation]
        ∧ t.tbc.lowHold = (if b.mode ≠ .park ∧ b.present = true ∧ b.chargeOpen = false then
            some (s.tbc.lowHold.getD s.time) else s.tbc.lowHold)
        ∧ t.ft[fSuppLow] = s.ft[fSuppLow] ∧ t.time = s.time ∧ t.pc = s.pc ∧ t.me = s.me) ∧
    ((s.ft[fScanStale]).state = .active → s.vo.supply = .normal → s.heldFor s.vo.supplyHold 100000 = true →
      let x := s.mu.snapshot.entries[roleSupply]
      let shown := if x.present = true ∧ x.valid = true then x.value.toNat else 0
      let v : State := { s with
        vo := { s.vo with
          supply := .low, supplyHold := none, chan := s.vo.chan.set chFront ({ s.vo.chan[chFront] with drive := 0 }) }
        lp := offerNotice (noticeOf s .supplyChanged 2 .vo 1 shown) s.lp }
      ∃ t, exec .supplyQualificationExpiry s = .next t
        ∧ t = settle (tbcOnSupply (hcOnSupply (fdmOnSupply (scOnSupply (ftStart fSupplyLow shown v)))))
        ∧ t.vo.supply = .low ∧ t.vo.supplyHold = none
        ∧ (t.vo.chan[chFront]).drive = 0 ∧ (t.ft[fSupplyLow]).state = .active
        ∧ t.fdm.causeSupply = true ∧ t.fdm.state = .forced ∧ t.hc.causeSupply = true
        ∧ (t.hc.state = .lockedOut ∨ t.hc.state = .held ∨ t.hc.state = .stopped)
        ∧ t.tbc.pub.check = .idle ∧ KeepsMeasures s t)

/-- An edge of a calibrated pulse input restarts its gap timer: it stops being STOPPED, or measures the period since
the last edge, 1..400 000 µs, and is RUNNING. The gap's expiry stops it. An input without calibration keeps no
capture (R61, R62). It rests on the model's own choices of log entries 6 and 19. -/
def Obligations.PulseEdgesMeasurePeriods : Prop :=
  ∀ (p : PulseIn) (s : State), s.undelivered = 0 →
    let i := pulseIdx p
    let q := s.mu.pulse[i]
    let put (q : Pulse) : State := { s with mu := { s.mu with pulse := s.mu.pulse.set i q } }
    (q.calibrated = false → exec (.pulseEdge p) s = .next s) ∧
    (q.calibrated = true → q.state = .stopped → exec (.pulseEdge p) s =
      .next (put { q with state := .firstEdge, lastEdge := s.time, gap := some (s.time + 400000) })) ∧
    (q.calibrated = true → q.state ≠ .stopped → exec (.pulseEdge p) s =
      .next (put { q with
        state := .running, lastEdge := s.time, gap := some (s.time + 400000)
        period := max 1 (min 400000 (s.time - q.lastEdge)) })) ∧
    (s.due q.gap = true → exec (.pulseGapExpiry p) s =
      .next (put { q with state := .stopped, period := 0, gap := none }))

/-- A motion update forms the record from the pulse periods: speeds, plausibility states, slip over its ring of eight,
lead ratio, standstill and direction, and takes its next deadline 10 ms on. It starts the hold time of INPUT, FRONT and
RADAR at the first update that finds the condition, keeps it while the condition lasts, and discards it where the input
becomes suspect or the condition is gone; it keeps the time of the last slip sample, which empties the ring 100 ms on; and
it leaves the engine record and its timer as they are (R63, R65, R66, R67, R68, R69, R70, R71, R72). That a period
reported while an input waits for its next edge saturates at 400 000 µs, and that RADAR absent reports none, is the
model's reading of log entry 19. It rests on the model's own choices of log entries 6, 11 and 19. -/
def Obligations.MotionUpdatesFormTheRecord : Prop :=
  ∀ s : State, s.undelivered = 0 → s.inRun = true → s.due s.me.updateDue = true →
    let old := s.me
    let pulse (i : Fin 4) : Pulse := s.mu.pulse.get i
    let period (i : Fin 4) : Option Nat :=
      let p := pulse i
      if p.calibrated = true ∧ (i = 3 → p.present = true) ∧ p.state = .running then
        some (min 400000 (max p.period (s.time - p.lastEdge))) else none
    let travel (i : Fin 4) : Nat := (period i).elim 0 fun t => min 20000 ((pulse i).k * 1000 / t)
    let shaft (i : Fin 4) : Nat := (period i).elim 0 fun t => min 4000 (60000000 / (t * (pulse i).ppr))
    let vR := travel 1
    let vF := travel 2
    let vG := travel 3
    let nOut := shaft 1
    let nIn := shaft 0
    let ratio := if 300 ≤ vR then min 5000 (vF * 1000 / vR) else 0
    let agrees := 500 ≤ ratio ∧ ratio ≤ 1500
    let held (t : Option Nat) (d : Nat) := ∃ h ∈ t, h + d ≤ s.time
    let locked := s.sc.pub.state = .idle ∧ s.sc.pub.dir ≠ .n ∧ s.sc.pub.gear ≠ 0
    let radar := (pulse 3).present
    let suspect (was holds ends : Bool) (hold : Option Nat) (d : Nat) : Bool :=
      if was then !ends else holds && decide (held hold d)
    let holdTime (was holds : Bool) (hold : Option Nat) (d : Nat) : Option Nat :=
      if was then hold else if holds = true ∧ ¬held hold d then some (hold.getD s.time) else none
    let inputHolds := decide (locked ∧ 200 < nOut ∧ nIn = 0)
    let inputSuspect := suspect old.pub.inputSuspect inputHolds (decide (0 < nIn)) old.inputHold 500000
    let frontHolds := decide (1000 < vR ∧ ¬agrees)
    let frontSuspect := suspect old.pub.frontSuspect frontHolds (decide (300 ≤ vR ∧ agrees)) old.frontHold 2000000
    let radarHolds := decide (radar = true ∧ frontSuspect = false ∧ agrees ∧ vG = 0 ∧ 2000 < vR)
    let radarSuspect := suspect old.pub.radarSuspect radarHolds (decide (0 < vG)) old.radarHold 2000000
    let vGValid := radar && !radarSuspect
    let sampled := vGValid = true ∧ 300 ≤ vR
    let ring := if sampled then
        (if old.ring.length < 8 then old.ring else old.ring.tail) ++ [if vR ≤ vG then 0 else (vR - vG) * 1000 / vR]
      else if held old.lastSample 100000 then [] else old.ring
    let still := vR < 100 ∧ (vG < 100 ∨ vGValid = false)
    ∃ t, exec .motionUpdate s = .next t
      ∧ t.me = { old with
          pub := { time := s.time, vR := vR, vF := vF, vG := vG, vGValid := vGValid, nIn := nIn, nOut := nOut
                   slip := if 4 ≤ ring.length then ring.sum / ring.length else 0, slipValid := decide (4 ≤ ring.length)
                   ringEntries := ring.length, lead := ratio, leadValid := decide (300 ≤ vR) && !frontSuspect
                   standstill := decide (still ∧ held old.standSince 500000), dir := s.sc.pub.dir
                   inputSuspect := inputSuspect, frontSuspect := frontSuspect, radarSuspect := radarSuspect }
          ring := ring, lastSample := if sampled then some s.time else old.lastSample
          standSince := if still then some (old.standSince.getD s.time) else none
          inputHold := holdTime old.pub.inputSuspect inputHolds old.inputHold 500000
          frontHold := holdTime old.pub.frontSuspect frontHolds old.frontHold 2000000
          radarHold := holdTime old.pub.radarSuspect radarHolds old.radarHold 2000000
          updateDue := old.updateDue.map (· + 10000) }
      ∧ t.mu = s.mu ∧ t.pc = s.pc ∧ t.time = s.time ∧ t.hc = s.hc

/-- A motion update forms its record, reports PULSE_PLAUSIBILITY of INPUT, FRONT and RADAR where they start, with n_out, the
ratio as formed and V_r, or end, and then reaches the SC, the FDM, which evaluates with it, and the TBC. The SC tests a
locked gear for slip and after 200 ms raises CLUTCH_SLIP with the gear, ends it when the condition or the state is gone, and
ends RECOVERY_FAILED at standstill. The TBC aborts a line check without standstill, and at standstill with the policy
pressure applied changes to PARK, its line vented, and clears it. The notices of the reports, of the two entries' ends, of the
abort and of the change of mode are stated. The brake record publications of all this are delivered after the TBC's act,
which is the model's reading of log entry 4 (R63, R71, R72, R129, R131, R141, R182, R183, R185, R192, R193, R195). It rests
on the model's own choices of log entries 4, 6, 11 and 35. -/
def Obligations.MotionUpdatesReachTheJobs : Prop :=
  (∀ s : State, s.undelivered = 0 → s.inRun = true → s.due s.me.updateDue = true →
    let latched (e : FaultEntry) : FaultEntry :=
      if e.state = .active then { e with state := .latched, last := s.time } else e
    ∃ u, (∃ t, exec .motionUpdate s = .next t ∧ t = settle (tbcOnMotion (fdmEvaluate true (scOnMotion u)))
        ∧ t.me = u.me)
      ∧ u = { s with me := u.me, ft := u.ft, lp := u.lp }
      ∧ (∀ i : Fin 47, i ≠ fInput → i ≠ fFront → i ≠ fRadar → u.ft[i] = s.ft[i])
      ∧ (let report (i : Fin 47) (before after : Bool) (detail : Nat) :=
          (before = after → u.ft[i] = s.ft[i]) ∧
          (before = false → after = true → (u.ft[i]).state = .active ∧
            ((s.ft[i]).state ≠ .active → (u.ft[i]).detail = BitVec.ofNat 16 detail)) ∧
          (before = true → after = false → u.ft[i] = latched s.ft[i])
        report fInput s.me.pub.inputSuspect u.me.pub.inputSuspect u.me.pub.nOut
          ∧ report fFront s.me.pub.frontSuspect u.me.pub.frontSuspect u.me.pub.lead
          ∧ report fRadar s.me.pub.radarSuspect u.me.pub.radarSuspect u.me.pub.vR)
      ∧ (let note (i : Fin 47) (before after : Bool) (detail : Nat) : List Notice :=
          if before = after then [] else if after = true then raisedNote s i detail else endedNote s i
        u.lp = offerAll (note fInput s.me.pub.inputSuspect u.me.pub.inputSuspect u.me.pub.nOut
          ++ note fFront s.me.pub.frontSuspect u.me.pub.frontSuspect u.me.pub.lead
          ++ note fRadar s.me.pub.radarSuspect u.me.pub.radarSuspect u.me.pub.vR) s.lp)) ∧
  (∀ s : State,
    let m := s.me.pub
    let slips := s.sc.pub.state = .idle ∧ s.sc.pub.dir ≠ .n ∧ 200 < m.nOut ∧ m.inputSuspect = false
      ∧ 3 * s.sc.wSync < ((m.nIn : Int) - (m.nOut * (gearAt s.sc.gears s.sc.pub.gear).ratio / 1000 : Nat)).natAbs
    let since := s.sc.slipHold.getD s.time
    let t := scOnMotion s
    t = { s with sc := { s.sc with slipHold := if slips then some since else none }, ft := t.ft, lp := t.lp }
      ∧ (slips → s.time < since + 200000 → t.ft[fClutchSlip] = s.ft[fClutchSlip])
      ∧ (slips → since + 200000 ≤ s.time → (t.ft[fClutchSlip]).state = .active ∧
          ((s.ft[fClutchSlip]).state ≠ .active → (t.ft[fClutchSlip]).detail = BitVec.ofNat 16 s.sc.pub.gear))
      ∧ (¬slips → (s.ft[fClutchSlip]).state = .active → (t.ft[fClutchSlip]).state = .latched)
      ∧ (¬slips → (s.ft[fClutchSlip]).state ≠ .active → t.ft[fClutchSlip] = s.ft[fClutchSlip])
      ∧ (m.standstill = true → (s.ft[fRecoveryFailed]).state = .active → (t.ft[fRecoveryFailed]).state = .latched)
      ∧ (m.standstill = false ∨ (s.ft[fRecoveryFailed]).state ≠ .active →
          t.ft[fRecoveryFailed] = s.ft[fRecoveryFailed])
      ∧ (∀ i : Fin 47, i ≠ fClutchSlip → i ≠ fRecoveryFailed → t.ft[i] = s.ft[i])
      ∧ t.lp = offerAll ((if slips then (if since + 200000 ≤ s.time then raisedNote s fClutchSlip s.sc.pub.gear else [])
          else endedNote s fClutchSlip) ++ if m.standstill = true then endedNote s fRecoveryFailed else []) s.lp) ∧
  (∀ s : State, s.inRun = true →
    let b := s.tbc.cur
    let t := tbcOnMotion s
    let idle := b.check = .idle
    let aborted : List Notice := if idle then [] else [noticeOf s .lineCheckResult 1 .tbc 2 0]
    (s.me.pub.standstill = false → BrakeStands (checkAborted b) s t ∧ t.tbc.pub.preBrake = b.preBrake
      ∧ t.tbc.stage = (if idle then s.tbc.stage else none) ∧ t.ft = s.ft ∧ t.lp = offerAll aborted s.lp) ∧
    (s.me.pub.standstill = true → b.policyOn = false → BrakeStands b s t ∧ t.tbc.pub.preBrake = b.preBrake
      ∧ t.tbc.stage = s.tbc.stage ∧ t.ft = s.ft ∧ t.lp = s.lp) ∧
    (s.me.pub.standstill = true → b.policyOn = true →
      BrakeStands { b with
          mode := .park, check := .idle, outcome := if idle then b.outcome else .aborted, policyOn := false, preBrake := .off
          supp := .vented, chargeOpen := b.chargeOpen && decide (b.mode = .park) } s t
        ∧ t.tbc.pub.preBrake = .off ∧ t.tbc.runOut = none ∧ t.tbc.stage = (if idle then s.tbc.stage else none)
        ∧ (b.mode ≠ .park → t.tbc.charge = none ∧ t.tbc.lowHold = none
            ∧ ((s.ft[fSuppLow]).state = .active → (t.ft[fSuppLow]).state = .latched))
        ∧ (b.mode = .park ∨ (s.ft[fSuppLow]).state ≠ .active → t.ft = s.ft
            ∧ t.lp = offerAll (aborted ++ [noticeOf s .trailerModeChanged 0 .tbc 0 b.present.toNat]) s.lp)
        ∧ (s.lp.notices = [] → ∃ n ∈ t.lp.notices,
            n.kind = .trailerModeChanged ∧ n.v1 = 0 ∧ n.v2 = if b.present then 1 else 0)) ∧
    t.hc = s.hc ∧ t.fdm = s.fdm ∧ KeepsMeasures s t)

/-! ### What every step keeps -/

/-- A step keeps every bound on the queues, rings and tables, the pressure from which BRAKING is set above zero, and ATTN
what the notice queue and the threshold give, and leaves no publication undelivered (R17, R20, R68, R101, R113, R179,
R180). It rests on the model's own choices of log entry 4. -/
def Obligations.StepsKeepTheBounds : Prop :=
  ∀ s t : State, s.undelivered = 0 → Bounded s → step s = .next t → Bounded t ∧ t.undelivered = 0

/-- A step keeps every output safe: current only in RUN on an unforced, characterised channel commanded above zero;
FRONT_RELEASE energised only with the supply NORMAL in RELEASED or ENGAGE_WAIT; the control line never above P_trl_max in
RUN (R77, R81, R138, R182). -/
def Obligations.StepsKeepTheValvesSafe : Prop :=
  ∀ s t : State, s.undelivered = 0 → ValvesSafe s → step s = .next t → ValvesSafe t

/-- A step keeps the hitch safe: both channels carry the commands of the hitch record; RAISE and LOWER are never both above
zero; RAISE is at zero in LOCKED_OUT, HELD and STOPPED, and in TRANSPORT once the upper limit was reached; LOWER is above zero
only in CONTROL with a valid position (R153, R158, R164, R168). -/
def Obligations.StepsKeepTheHitchSafe : Prop :=
  ∀ s t : State, s.undelivered = 0 → HitchSafe s → step s = .next t → HitchSafe t

/-- A step keeps the front drive FORCED while a cause is set, and ENGAGED or FORCED while the brake record shows BRAKING,
in RUN (R145, R149). -/
def Obligations.StepsKeepTheFrontSafe : Prop :=
  ∀ s t : State, s.undelivered = 0 → FrontSafe s → step s = .next t → FrontSafe t

/-- Every command leaves the brake record published as the TBC holds it, and the timeout entry in hand one of
FILL_TIMEOUT and SYNC_TIMEOUT (R127, R177, R178). -/
def Obligations.StepsKeepTheRecordsCoherent : Prop :=
  ∀ s t : State, Coherent s → step s = .next t → Coherent t

/-- Only power-on clears the limit lock, and while it is set no step changes the limit set; CONFIG is left by START alone,
with its checks passed, and RUN by RESTART and power-on alone (R25, R26, R27, R29, R30, R31,
R32). -/
def Obligations.StepsKeepTheLimitLockAndPartState : Prop :=
  ∀ (c : Instr) (rest : List Instr) (s t : State), s.pending = c :: rest → c.wf = true → step s = .next t →
    (s.pc.lock = true → c ≠ .powerOn → t.pc.lock = true ∧ t.pc.limits = s.pc.limits) ∧
    (s.pc.part = .config → t.pc.part = .run → (∃ f, c = .start f) ∧ startChecks s = none) ∧
    (s.pc.part = .run → t.pc.part = .config → c = .powerOn ∨ ∃ f, c = .restart f)
end

