-- ==== Sys2Proof/Laws/State.lean ====
section
/-! SUPPORT. One lemma per field of State per named update of it, so that no later proof unfolds an update. -/

namespace Sys2Proof.Machine

open Sys2Proof

/-! ### modChan -/

@[simp] theorem modChan_time (i : Fin 14) (g : Chan → Chan) (s : State) : (modChan i g s).time = s.time := rfl
@[simp] theorem modChan_pending (i : Fin 14) (g : Chan → Chan) (s : State) :
    (modChan i g s).pending = s.pending := rfl
@[simp] theorem modChan_lp (i : Fin 14) (g : Chan → Chan) (s : State) : (modChan i g s).lp = s.lp := rfl
@[simp] theorem modChan_pc (i : Fin 14) (g : Chan → Chan) (s : State) : (modChan i g s).pc = s.pc := rfl
@[simp] theorem modChan_mu (i : Fin 14) (g : Chan → Chan) (s : State) : (modChan i g s).mu = s.mu := rfl
@[simp] theorem modChan_me (i : Fin 14) (g : Chan → Chan) (s : State) : (modChan i g s).me = s.me := rfl
@[simp] theorem modChan_vo (i : Fin 14) (g : Chan → Chan) (s : State) :
    (modChan i g s).vo = { s.vo with chan := s.vo.chan.set i (g s.vo.chan[i]) } := rfl
@[simp] theorem modChan_sc (i : Fin 14) (g : Chan → Chan) (s : State) : (modChan i g s).sc = s.sc := rfl
@[simp] theorem modChan_fdm (i : Fin 14) (g : Chan → Chan) (s : State) : (modChan i g s).fdm = s.fdm := rfl
@[simp] theorem modChan_hc (i : Fin 14) (g : Chan → Chan) (s : State) : (modChan i g s).hc = s.hc := rfl
@[simp] theorem modChan_tbc (i : Fin 14) (g : Chan → Chan) (s : State) : (modChan i g s).tbc = s.tbc := rfl
@[simp] theorem modChan_ft (i : Fin 14) (g : Chan → Chan) (s : State) : (modChan i g s).ft = s.ft := rfl
@[simp] theorem modChan_undelivered (i : Fin 14) (g : Chan → Chan) (s : State) :
    (modChan i g s).undelivered = s.undelivered := rfl

/-! ### modBrake -/

@[simp] theorem modBrake_time (g : BrakeRecord → BrakeRecord) (s : State) : (modBrake g s).time = s.time := rfl
@[simp] theorem modBrake_pending (g : BrakeRecord → BrakeRecord) (s : State) :
    (modBrake g s).pending = s.pending := rfl
@[simp] theorem modBrake_lp (g : BrakeRecord → BrakeRecord) (s : State) : (modBrake g s).lp = s.lp := rfl
@[simp] theorem modBrake_pc (g : BrakeRecord → BrakeRecord) (s : State) : (modBrake g s).pc = s.pc := rfl
@[simp] theorem modBrake_mu (g : BrakeRecord → BrakeRecord) (s : State) : (modBrake g s).mu = s.mu := rfl
@[simp] theorem modBrake_me (g : BrakeRecord → BrakeRecord) (s : State) : (modBrake g s).me = s.me := rfl
@[simp] theorem modBrake_vo (g : BrakeRecord → BrakeRecord) (s : State) : (modBrake g s).vo = s.vo := rfl
@[simp] theorem modBrake_sc (g : BrakeRecord → BrakeRecord) (s : State) : (modBrake g s).sc = s.sc := rfl
@[simp] theorem modBrake_fdm (g : BrakeRecord → BrakeRecord) (s : State) : (modBrake g s).fdm = s.fdm := rfl
@[simp] theorem modBrake_hc (g : BrakeRecord → BrakeRecord) (s : State) : (modBrake g s).hc = s.hc := rfl
@[simp] theorem modBrake_tbc (g : BrakeRecord → BrakeRecord) (s : State) :
    (modBrake g s).tbc = { s.tbc with cur := g s.tbc.cur } := rfl
@[simp] theorem modBrake_ft (g : BrakeRecord → BrakeRecord) (s : State) : (modBrake g s).ft = s.ft := rfl
@[simp] theorem modBrake_undelivered (g : BrakeRecord → BrakeRecord) (s : State) :
    (modBrake g s).undelivered = s.undelivered := rfl

/-! ### modFault -/

@[simp] theorem modFault_time (i : Fin 47) (e : FaultEntry) (s : State) : (modFault i e s).time = s.time := rfl
@[simp] theorem modFault_pending (i : Fin 47) (e : FaultEntry) (s : State) :
    (modFault i e s).pending = s.pending := rfl
@[simp] theorem modFault_lp (i : Fin 47) (e : FaultEntry) (s : State) : (modFault i e s).lp = s.lp := rfl
@[simp] theorem modFault_pc (i : Fin 47) (e : FaultEntry) (s : State) : (modFault i e s).pc = s.pc := rfl
@[simp] theorem modFault_mu (i : Fin 47) (e : FaultEntry) (s : State) : (modFault i e s).mu = s.mu := rfl
@[simp] theorem modFault_me (i : Fin 47) (e : FaultEntry) (s : State) : (modFault i e s).me = s.me := rfl
@[simp] theorem modFault_vo (i : Fin 47) (e : FaultEntry) (s : State) : (modFault i e s).vo = s.vo := rfl
@[simp] theorem modFault_sc (i : Fin 47) (e : FaultEntry) (s : State) : (modFault i e s).sc = s.sc := rfl
@[simp] theorem modFault_fdm (i : Fin 47) (e : FaultEntry) (s : State) : (modFault i e s).fdm = s.fdm := rfl
@[simp] theorem modFault_hc (i : Fin 47) (e : FaultEntry) (s : State) : (modFault i e s).hc = s.hc := rfl
@[simp] theorem modFault_tbc (i : Fin 47) (e : FaultEntry) (s : State) : (modFault i e s).tbc = s.tbc := rfl
@[simp] theorem modFault_ft (i : Fin 47) (e : FaultEntry) (s : State) : (modFault i e s).ft = s.ft.set i e := rfl
@[simp] theorem modFault_undelivered (i : Fin 47) (e : FaultEntry) (s : State) :
    (modFault i e s).undelivered = s.undelivered := rfl

/-! ### ftZero -/

@[simp] theorem ftZero_time (i : Fin 47) (s : State) : (ftZero i s).time = s.time := rfl
@[simp] theorem ftZero_pending (i : Fin 47) (s : State) : (ftZero i s).pending = s.pending := rfl
@[simp] theorem ftZero_lp (i : Fin 47) (s : State) : (ftZero i s).lp = s.lp := rfl
@[simp] theorem ftZero_pc (i : Fin 47) (s : State) : (ftZero i s).pc = s.pc := rfl
@[simp] theorem ftZero_mu (i : Fin 47) (s : State) : (ftZero i s).mu = s.mu := rfl
@[simp] theorem ftZero_me (i : Fin 47) (s : State) : (ftZero i s).me = s.me := rfl
@[simp] theorem ftZero_vo (i : Fin 47) (s : State) : (ftZero i s).vo = s.vo := rfl
@[simp] theorem ftZero_sc (i : Fin 47) (s : State) : (ftZero i s).sc = s.sc := rfl
@[simp] theorem ftZero_fdm (i : Fin 47) (s : State) : (ftZero i s).fdm = s.fdm := rfl
@[simp] theorem ftZero_hc (i : Fin 47) (s : State) : (ftZero i s).hc = s.hc := rfl
@[simp] theorem ftZero_tbc (i : Fin 47) (s : State) : (ftZero i s).tbc = s.tbc := rfl
@[simp] theorem ftZero_ft (i : Fin 47) (s : State) : (ftZero i s).ft = s.ft.set i {} := rfl
@[simp] theorem ftZero_undelivered (i : Fin 47) (s : State) : (ftZero i s).undelivered = s.undelivered := rfl

/-! ### modPulse -/

@[simp] theorem modPulse_time (i : Fin 4) (g : Pulse → Pulse) (s : State) : (modPulse i g s).time = s.time := rfl
@[simp] theorem modPulse_pending (i : Fin 4) (g : Pulse → Pulse) (s : State) :
    (modPulse i g s).pending = s.pending := rfl
@[simp] theorem modPulse_lp (i : Fin 4) (g : Pulse → Pulse) (s : State) : (modPulse i g s).lp = s.lp := rfl
@[simp] theorem modPulse_pc (i : Fin 4) (g : Pulse → Pulse) (s : State) : (modPulse i g s).pc = s.pc := rfl
@[simp] theorem modPulse_mu (i : Fin 4) (g : Pulse → Pulse) (s : State) :
    (modPulse i g s).mu = { s.mu with pulse := s.mu.pulse.set i (g s.mu.pulse[i]) } := rfl
@[simp] theorem modPulse_me (i : Fin 4) (g : Pulse → Pulse) (s : State) : (modPulse i g s).me = s.me := rfl
@[simp] theorem modPulse_vo (i : Fin 4) (g : Pulse → Pulse) (s : State) : (modPulse i g s).vo = s.vo := rfl
@[simp] theorem modPulse_sc (i : Fin 4) (g : Pulse → Pulse) (s : State) : (modPulse i g s).sc = s.sc := rfl
@[simp] theorem modPulse_fdm (i : Fin 4) (g : Pulse → Pulse) (s : State) : (modPulse i g s).fdm = s.fdm := rfl
@[simp] theorem modPulse_hc (i : Fin 4) (g : Pulse → Pulse) (s : State) : (modPulse i g s).hc = s.hc := rfl
@[simp] theorem modPulse_tbc (i : Fin 4) (g : Pulse → Pulse) (s : State) : (modPulse i g s).tbc = s.tbc := rfl
@[simp] theorem modPulse_ft (i : Fin 4) (g : Pulse → Pulse) (s : State) : (modPulse i g s).ft = s.ft := rfl
@[simp] theorem modPulse_undelivered (i : Fin 4) (g : Pulse → Pulse) (s : State) :
    (modPulse i g s).undelivered = s.undelivered := rfl

/-! ### emptyQueue -/

@[simp] theorem emptyQueue_time (s : State) : (emptyQueue s).time = s.time := rfl
@[simp] theorem emptyQueue_pending (s : State) : (emptyQueue s).pending = s.pending := rfl
@[simp] theorem emptyQueue_lp (s : State) : (emptyQueue s).lp = s.lp := rfl
@[simp] theorem emptyQueue_pc (s : State) : (emptyQueue s).pc = s.pc := rfl
@[simp] theorem emptyQueue_mu (s : State) : (emptyQueue s).mu = s.mu := rfl
@[simp] theorem emptyQueue_me (s : State) : (emptyQueue s).me = s.me := rfl
@[simp] theorem emptyQueue_vo (s : State) : (emptyQueue s).vo = s.vo := rfl
@[simp] theorem emptyQueue_sc (s : State) : (emptyQueue s).sc = { s.sc with queue := [] } := rfl
@[simp] theorem emptyQueue_fdm (s : State) : (emptyQueue s).fdm = s.fdm := rfl
@[simp] theorem emptyQueue_hc (s : State) : (emptyQueue s).hc = s.hc := rfl
@[simp] theorem emptyQueue_tbc (s : State) : (emptyQueue s).tbc = s.tbc := rfl
@[simp] theorem emptyQueue_ft (s : State) : (emptyQueue s).ft = s.ft := rfl
@[simp] theorem emptyQueue_undelivered (s : State) : (emptyQueue s).undelivered = s.undelivered := rfl

/-! ### popHead -/

@[simp] theorem popHead_time (s : State) : (popHead s).time = s.time := rfl
@[simp] theorem popHead_pending (s : State) : (popHead s).pending = s.pending := rfl
@[simp] theorem popHead_lp (s : State) : (popHead s).lp = s.lp := rfl
@[simp] theorem popHead_pc (s : State) : (popHead s).pc = s.pc := rfl
@[simp] theorem popHead_mu (s : State) : (popHead s).mu = s.mu := rfl
@[simp] theorem popHead_me (s : State) : (popHead s).me = s.me := rfl
@[simp] theorem popHead_vo (s : State) : (popHead s).vo = s.vo := rfl
@[simp] theorem popHead_sc (s : State) :
    (popHead s).sc = { s.sc with queue := s.sc.queue.tail, supplyWait := none, brakeWait := none } := rfl
@[simp] theorem popHead_fdm (s : State) : (popHead s).fdm = s.fdm := rfl
@[simp] theorem popHead_hc (s : State) : (popHead s).hc = s.hc := rfl
@[simp] theorem popHead_tbc (s : State) : (popHead s).tbc = s.tbc := rfl
@[simp] theorem popHead_ft (s : State) : (popHead s).ft = s.ft := rfl
@[simp] theorem popHead_undelivered (s : State) : (popHead s).undelivered = s.undelivered := rfl

/-! ### abortRun -/

@[simp] theorem abortRun_time (s : State) : (abortRun s).time = s.time := rfl
@[simp] theorem abortRun_pending (s : State) : (abortRun s).pending = s.pending := rfl
@[simp] theorem abortRun_lp (s : State) : (abortRun s).lp = s.lp := rfl
@[simp] theorem abortRun_pc (s : State) : (abortRun s).pc = s.pc := rfl
@[simp] theorem abortRun_mu (s : State) : (abortRun s).mu = { s.mu with run := none } := rfl
@[simp] theorem abortRun_me (s : State) : (abortRun s).me = s.me := rfl
@[simp] theorem abortRun_vo (s : State) : (abortRun s).vo = s.vo := rfl
@[simp] theorem abortRun_sc (s : State) : (abortRun s).sc = s.sc := rfl
@[simp] theorem abortRun_fdm (s : State) : (abortRun s).fdm = s.fdm := rfl
@[simp] theorem abortRun_hc (s : State) : (abortRun s).hc = s.hc := rfl
@[simp] theorem abortRun_tbc (s : State) : (abortRun s).tbc = s.tbc := rfl
@[simp] theorem abortRun_ft (s : State) : (abortRun s).ft = s.ft := rfl
@[simp] theorem abortRun_undelivered (s : State) : (abortRun s).undelivered = s.undelivered := rfl

/-! ### setReturn -/

@[simp] theorem setReturn_time (r : HitchState) (s : State) : (setReturn r s).time = s.time := rfl
@[simp] theorem setReturn_pending (r : HitchState) (s : State) : (setReturn r s).pending = s.pending := rfl
@[simp] theorem setReturn_lp (r : HitchState) (s : State) : (setReturn r s).lp = s.lp := rfl
@[simp] theorem setReturn_pc (r : HitchState) (s : State) : (setReturn r s).pc = s.pc := rfl
@[simp] theorem setReturn_mu (r : HitchState) (s : State) : (setReturn r s).mu = s.mu := rfl
@[simp] theorem setReturn_me (r : HitchState) (s : State) : (setReturn r s).me = s.me := rfl
@[simp] theorem setReturn_vo (r : HitchState) (s : State) : (setReturn r s).vo = s.vo := rfl
@[simp] theorem setReturn_sc (r : HitchState) (s : State) : (setReturn r s).sc = s.sc := rfl
@[simp] theorem setReturn_fdm (r : HitchState) (s : State) : (setReturn r s).fdm = s.fdm := rfl
@[simp] theorem setReturn_hc (r : HitchState) (s : State) : (setReturn r s).hc = { s.hc with ret := r } := rfl
@[simp] theorem setReturn_tbc (r : HitchState) (s : State) : (setReturn r s).tbc = s.tbc := rfl
@[simp] theorem setReturn_ft (r : HitchState) (s : State) : (setReturn r s).ft = s.ft := rfl
@[simp] theorem setReturn_undelivered (r : HitchState) (s : State) :
    (setReturn r s).undelivered = s.undelivered := rfl

/-! ### restartSupervision -/

@[simp] theorem restartSupervision_time (s : State) : (restartSupervision s).time = s.time := rfl
@[simp] theorem restartSupervision_pending (s : State) : (restartSupervision s).pending = s.pending := rfl
@[simp] theorem restartSupervision_lp (s : State) :
    (restartSupervision s).lp = { s.lp with supervision := some (s.time + s.lp.tLink * Config.ms) } := rfl
@[simp] theorem restartSupervision_pc (s : State) : (restartSupervision s).pc = s.pc := rfl
@[simp] theorem restartSupervision_mu (s : State) : (restartSupervision s).mu = s.mu := rfl
@[simp] theorem restartSupervision_me (s : State) : (restartSupervision s).me = s.me := rfl
@[simp] theorem restartSupervision_vo (s : State) : (restartSupervision s).vo = s.vo := rfl
@[simp] theorem restartSupervision_sc (s : State) : (restartSupervision s).sc = s.sc := rfl
@[simp] theorem restartSupervision_fdm (s : State) : (restartSupervision s).fdm = s.fdm := rfl
@[simp] theorem restartSupervision_hc (s : State) : (restartSupervision s).hc = s.hc := rfl
@[simp] theorem restartSupervision_tbc (s : State) : (restartSupervision s).tbc = s.tbc := rfl
@[simp] theorem restartSupervision_ft (s : State) : (restartSupervision s).ft = s.ft := rfl
@[simp] theorem restartSupervision_undelivered (s : State) : (restartSupervision s).undelivered = s.undelivered := rfl

/-! ### setThreshold -/

@[simp] theorem setThreshold_time (n : Nat) (s : State) : (setThreshold n s).time = s.time := rfl
@[simp] theorem setThreshold_pending (n : Nat) (s : State) : (setThreshold n s).pending = s.pending := rfl
@[simp] theorem setThreshold_lp (n : Nat) (s : State) :
    (setThreshold n s).lp = evalAttn { s.lp with threshold := n } := rfl
@[simp] theorem setThreshold_pc (n : Nat) (s : State) : (setThreshold n s).pc = s.pc := rfl
@[simp] theorem setThreshold_mu (n : Nat) (s : State) : (setThreshold n s).mu = s.mu := rfl
@[simp] theorem setThreshold_me (n : Nat) (s : State) : (setThreshold n s).me = s.me := rfl
@[simp] theorem setThreshold_vo (n : Nat) (s : State) : (setThreshold n s).vo = s.vo := rfl
@[simp] theorem setThreshold_sc (n : Nat) (s : State) : (setThreshold n s).sc = s.sc := rfl
@[simp] theorem setThreshold_fdm (n : Nat) (s : State) : (setThreshold n s).fdm = s.fdm := rfl
@[simp] theorem setThreshold_hc (n : Nat) (s : State) : (setThreshold n s).hc = s.hc := rfl
@[simp] theorem setThreshold_tbc (n : Nat) (s : State) : (setThreshold n s).tbc = s.tbc := rfl
@[simp] theorem setThreshold_ft (n : Nat) (s : State) : (setThreshold n s).ft = s.ft := rfl
@[simp] theorem setThreshold_undelivered (n : Nat) (s : State) : (setThreshold n s).undelivered = s.undelivered := rfl

/-! ### clockFrame -/

@[simp] theorem clockFrame_time (bits : List Bool) (s : State) : (clockFrame bits s).time = s.time := rfl
@[simp] theorem clockFrame_pending (bits : List Bool) (s : State) : (clockFrame bits s).pending = s.pending := rfl
@[simp] theorem clockFrame_lp (bits : List Bool) (s : State) :
    (clockFrame bits s).lp = { s.lp with frame := bits.take Config.frameBits, bitCount := bits.length, dataOut := shiftedOut s.lp.slot bits.length } := rfl
@[simp] theorem clockFrame_pc (bits : List Bool) (s : State) : (clockFrame bits s).pc = s.pc := rfl
@[simp] theorem clockFrame_mu (bits : List Bool) (s : State) : (clockFrame bits s).mu = s.mu := rfl
@[simp] theorem clockFrame_me (bits : List Bool) (s : State) : (clockFrame bits s).me = s.me := rfl
@[simp] theorem clockFrame_vo (bits : List Bool) (s : State) : (clockFrame bits s).vo = s.vo := rfl
@[simp] theorem clockFrame_sc (bits : List Bool) (s : State) : (clockFrame bits s).sc = s.sc := rfl
@[simp] theorem clockFrame_fdm (bits : List Bool) (s : State) : (clockFrame bits s).fdm = s.fdm := rfl
@[simp] theorem clockFrame_hc (bits : List Bool) (s : State) : (clockFrame bits s).hc = s.hc := rfl
@[simp] theorem clockFrame_tbc (bits : List Bool) (s : State) : (clockFrame bits s).tbc = s.tbc := rfl
@[simp] theorem clockFrame_ft (bits : List Bool) (s : State) : (clockFrame bits s).ft = s.ft := rfl
@[simp] theorem clockFrame_undelivered (bits : List Bool) (s : State) :
    (clockFrame bits s).undelivered = s.undelivered := rfl

/-! ### reply -/

@[simp] theorem reply_time (kind tag : Byte) (st : Status) (body : List Byte) (s : State) :
    (reply kind tag st body s).time = s.time := rfl
@[simp] theorem reply_pending (kind tag : Byte) (st : Status) (body : List Byte) (s : State) :
    (reply kind tag st body s).pending = s.pending := rfl
@[simp] theorem reply_lp (kind tag : Byte) (st : Status) (body : List Byte) (s : State) :
    (reply kind tag st body s).lp = { s.lp with slot := mkReply kind tag st.code (partSummary s) body } := rfl
@[simp] theorem reply_pc (kind tag : Byte) (st : Status) (body : List Byte) (s : State) :
    (reply kind tag st body s).pc = s.pc := rfl
@[simp] theorem reply_mu (kind tag : Byte) (st : Status) (body : List Byte) (s : State) :
    (reply kind tag st body s).mu = s.mu := rfl
@[simp] theorem reply_me (kind tag : Byte) (st : Status) (body : List Byte) (s : State) :
    (reply kind tag st body s).me = s.me := rfl
@[simp] theorem reply_vo (kind tag : Byte) (st : Status) (body : List Byte) (s : State) :
    (reply kind tag st body s).vo = s.vo := rfl
@[simp] theorem reply_sc (kind tag : Byte) (st : Status) (body : List Byte) (s : State) :
    (reply kind tag st body s).sc = s.sc := rfl
@[simp] theorem reply_fdm (kind tag : Byte) (st : Status) (body : List Byte) (s : State) :
    (reply kind tag st body s).fdm = s.fdm := rfl
@[simp] theorem reply_hc (kind tag : Byte) (st : Status) (body : List Byte) (s : State) :
    (reply kind tag st body s).hc = s.hc := rfl
@[simp] theorem reply_tbc (kind tag : Byte) (st : Status) (body : List Byte) (s : State) :
    (reply kind tag st body s).tbc = s.tbc := rfl
@[simp] theorem reply_ft (kind tag : Byte) (st : Status) (body : List Byte) (s : State) :
    (reply kind tag st body s).ft = s.ft := rfl
@[simp] theorem reply_undelivered (kind tag : Byte) (st : Status) (body : List Byte) (s : State) :
    (reply kind tag st body s).undelivered = s.undelivered := rfl

/-! ### postAt -/

@[simp] theorem postAt_time (k : NoticeKind) (lvl v1 v2 : Nat) (s : State) :
    (postAt k lvl v1 v2 s).time = s.time := rfl
@[simp] theorem postAt_pending (k : NoticeKind) (lvl v1 v2 : Nat) (s : State) :
    (postAt k lvl v1 v2 s).pending = s.pending := rfl
@[simp] theorem postAt_lp (k : NoticeKind) (lvl v1 v2 : Nat) (s : State) :
    (postAt k lvl v1 v2 s).lp = offerNotice ⟨k, lvl, kindSource k, s.time, BitVec.ofNat 16 v1, BitVec.ofNat 16 v2⟩ s.lp := rfl
@[simp] theorem postAt_pc (k : NoticeKind) (lvl v1 v2 : Nat) (s : State) : (postAt k lvl v1 v2 s).pc = s.pc := rfl
@[simp] theorem postAt_mu (k : NoticeKind) (lvl v1 v2 : Nat) (s : State) : (postAt k lvl v1 v2 s).mu = s.mu := rfl
@[simp] theorem postAt_me (k : NoticeKind) (lvl v1 v2 : Nat) (s : State) : (postAt k lvl v1 v2 s).me = s.me := rfl
@[simp] theorem postAt_vo (k : NoticeKind) (lvl v1 v2 : Nat) (s : State) : (postAt k lvl v1 v2 s).vo = s.vo := rfl
@[simp] theorem postAt_sc (k : NoticeKind) (lvl v1 v2 : Nat) (s : State) : (postAt k lvl v1 v2 s).sc = s.sc := rfl
@[simp] theorem postAt_fdm (k : NoticeKind) (lvl v1 v2 : Nat) (s : State) : (postAt k lvl v1 v2 s).fdm = s.fdm := rfl
@[simp] theorem postAt_hc (k : NoticeKind) (lvl v1 v2 : Nat) (s : State) : (postAt k lvl v1 v2 s).hc = s.hc := rfl
@[simp] theorem postAt_tbc (k : NoticeKind) (lvl v1 v2 : Nat) (s : State) : (postAt k lvl v1 v2 s).tbc = s.tbc := rfl
@[simp] theorem postAt_ft (k : NoticeKind) (lvl v1 v2 : Nat) (s : State) : (postAt k lvl v1 v2 s).ft = s.ft := rfl
@[simp] theorem postAt_undelivered (k : NoticeKind) (lvl v1 v2 : Nat) (s : State) :
    (postAt k lvl v1 v2 s).undelivered = s.undelivered := rfl

/-! ### post -/

@[simp] theorem post_time (k : NoticeKind) (v1 v2 : Nat) (s : State) : (post k v1 v2 s).time = s.time := rfl
@[simp] theorem post_pending (k : NoticeKind) (v1 v2 : Nat) (s : State) : (post k v1 v2 s).pending = s.pending := rfl
@[simp] theorem post_lp (k : NoticeKind) (v1 v2 : Nat) (s : State) :
    (post k v1 v2 s).lp = offerNotice ⟨k, kindLevel k, kindSource k, s.time, BitVec.ofNat 16 v1, BitVec.ofNat 16 v2⟩ s.lp := rfl
@[simp] theorem post_pc (k : NoticeKind) (v1 v2 : Nat) (s : State) : (post k v1 v2 s).pc = s.pc := rfl
@[simp] theorem post_mu (k : NoticeKind) (v1 v2 : Nat) (s : State) : (post k v1 v2 s).mu = s.mu := rfl
@[simp] theorem post_me (k : NoticeKind) (v1 v2 : Nat) (s : State) : (post k v1 v2 s).me = s.me := rfl
@[simp] theorem post_vo (k : NoticeKind) (v1 v2 : Nat) (s : State) : (post k v1 v2 s).vo = s.vo := rfl
@[simp] theorem post_sc (k : NoticeKind) (v1 v2 : Nat) (s : State) : (post k v1 v2 s).sc = s.sc := rfl
@[simp] theorem post_fdm (k : NoticeKind) (v1 v2 : Nat) (s : State) : (post k v1 v2 s).fdm = s.fdm := rfl
@[simp] theorem post_hc (k : NoticeKind) (v1 v2 : Nat) (s : State) : (post k v1 v2 s).hc = s.hc := rfl
@[simp] theorem post_tbc (k : NoticeKind) (v1 v2 : Nat) (s : State) : (post k v1 v2 s).tbc = s.tbc := rfl
@[simp] theorem post_ft (k : NoticeKind) (v1 v2 : Nat) (s : State) : (post k v1 v2 s).ft = s.ft := rfl
@[simp] theorem post_undelivered (k : NoticeKind) (v1 v2 : Nat) (s : State) :
    (post k v1 v2 s).undelivered = s.undelivered := rfl

end Sys2Proof.Machine
end

