-- ==== Sys2Proof/Laws/Frame.lean ====
section
/-! SUPPORT. What each operation leaves of the state: one lemma per operation, a conjunction with one equation per field it
never writes, so that simp reads a field through it. -/

namespace Sys2Proof.Machine

open Sys2Proof

/-- A start or an end report of an entry that does not act through the gear window changes the FT and the LP only
(R197, R198). -/
theorem ftTell_quiet (i : Fin 47) (s : State) (h : isTrailerEntry i = false) : ftTell i s = s := by
  simp [ftTell, h]

/-! ### Shared operations -/

@[simp] theorem formDrive_same (i : Fin 14) (s : State) :
    (formDrive i s).time = s.time ∧ (formDrive i s).pending = s.pending ∧ (formDrive i s).lp = s.lp ∧
      (formDrive i s).pc = s.pc ∧ (formDrive i s).mu = s.mu ∧ (formDrive i s).me = s.me ∧
      (formDrive i s).sc = s.sc ∧ (formDrive i s).fdm = s.fdm ∧ (formDrive i s).hc = s.hc ∧
      (formDrive i s).tbc = s.tbc ∧ (formDrive i s).ft = s.ft ∧ (formDrive i s).undelivered = s.undelivered := by
  dsimp only [formDrive]
  refine ⟨?_, ?_, ?_, ?_, ?_, ?_, ?_, ?_, ?_, ?_, ?_, ?_⟩ <;> repeat' split
  all_goals simp

@[simp] theorem writeChan_same (i : Fin 14) (cmd : Nat) (s : State) :
    (writeChan i cmd s).time = s.time ∧ (writeChan i cmd s).pending = s.pending ∧ (writeChan i cmd s).lp = s.lp ∧
      (writeChan i cmd s).pc = s.pc ∧ (writeChan i cmd s).mu = s.mu ∧ (writeChan i cmd s).me = s.me ∧
      (writeChan i cmd s).sc = s.sc ∧ (writeChan i cmd s).fdm = s.fdm ∧ (writeChan i cmd s).hc = s.hc ∧
      (writeChan i cmd s).tbc = s.tbc ∧ (writeChan i cmd s).ft = s.ft ∧
      (writeChan i cmd s).undelivered = s.undelivered := by
  dsimp only [writeChan]
  refine ⟨?_, ?_, ?_, ?_, ?_, ?_, ?_, ?_, ?_, ?_, ?_, ?_⟩ <;> repeat' split
  all_goals simp

@[simp] theorem writeClutches_same (v : Vector Nat 9) (s : State) :
    (writeClutches v s).time = s.time ∧ (writeClutches v s).pending = s.pending ∧ (writeClutches v s).lp = s.lp ∧
      (writeClutches v s).pc = s.pc ∧ (writeClutches v s).mu = s.mu ∧ (writeClutches v s).me = s.me ∧
      (writeClutches v s).sc = s.sc ∧ (writeClutches v s).fdm = s.fdm ∧ (writeClutches v s).hc = s.hc ∧
      (writeClutches v s).tbc = s.tbc ∧ (writeClutches v s).ft = s.ft ∧
      (writeClutches v s).undelivered = s.undelivered := by
  unfold writeClutches
  generalize List.finRange 9 = l
  induction l generalizing s with
  | nil => simp
  | cons c l ih => simp only [List.foldl_cons, ih, writeChan_same, and_self]

@[simp] theorem tbcPublish_same (s : State) :
    (tbcPublish s).time = s.time ∧ (tbcPublish s).pending = s.pending ∧ (tbcPublish s).lp = s.lp ∧
      (tbcPublish s).pc = s.pc ∧ (tbcPublish s).mu = s.mu ∧ (tbcPublish s).me = s.me ∧ (tbcPublish s).vo = s.vo ∧
      (tbcPublish s).sc = s.sc ∧ (tbcPublish s).fdm = s.fdm ∧ (tbcPublish s).hc = s.hc ∧ (tbcPublish s).ft = s.ft := by
  dsimp only [tbcPublish]
  refine ⟨?_, ?_, ?_, ?_, ?_, ?_, ?_, ?_, ?_, ?_, ?_⟩ <;> repeat' split
  all_goals simp

@[simp] theorem tbcForm_same (s : State) :
    (tbcForm s).time = s.time ∧ (tbcForm s).pending = s.pending ∧ (tbcForm s).lp = s.lp ∧ (tbcForm s).pc = s.pc ∧
      (tbcForm s).mu = s.mu ∧ (tbcForm s).me = s.me ∧ (tbcForm s).vo = s.vo ∧ (tbcForm s).sc = s.sc ∧
      (tbcForm s).fdm = s.fdm ∧ (tbcForm s).hc = s.hc ∧ (tbcForm s).ft = s.ft ∧
      (tbcForm s).undelivered = s.undelivered := by
  dsimp only [tbcForm]
  refine ⟨?_, ?_, ?_, ?_, ?_, ?_, ?_, ?_, ?_, ?_, ?_, ?_⟩ <;> repeat' split
  all_goals simp

@[simp] theorem tbcFinish_same (s : State) :
    (tbcFinish s).time = s.time ∧ (tbcFinish s).pending = s.pending ∧ (tbcFinish s).lp = s.lp ∧
      (tbcFinish s).pc = s.pc ∧ (tbcFinish s).mu = s.mu ∧ (tbcFinish s).me = s.me ∧ (tbcFinish s).sc = s.sc ∧
      (tbcFinish s).fdm = s.fdm ∧ (tbcFinish s).hc = s.hc ∧ (tbcFinish s).ft = s.ft := by
  dsimp only [tbcFinish]
  refine ⟨?_, ?_, ?_, ?_, ?_, ?_, ?_, ?_, ?_, ?_⟩ <;> repeat' split
  all_goals simp

@[simp] theorem preBrakeTest_same (s : State) :
    (preBrakeTest s).time = s.time ∧ (preBrakeTest s).pending = s.pending ∧ (preBrakeTest s).lp = s.lp ∧
      (preBrakeTest s).pc = s.pc ∧ (preBrakeTest s).mu = s.mu ∧ (preBrakeTest s).me = s.me ∧
      (preBrakeTest s).vo = s.vo ∧ (preBrakeTest s).sc = s.sc ∧ (preBrakeTest s).fdm = s.fdm ∧
      (preBrakeTest s).hc = s.hc ∧ (preBrakeTest s).ft = s.ft ∧ (preBrakeTest s).undelivered = s.undelivered := by
  dsimp only [preBrakeTest]
  refine ⟨?_, ?_, ?_, ?_, ?_, ?_, ?_, ?_, ?_, ?_, ?_, ?_⟩ <;> repeat' split
  all_goals simp

@[simp] theorem tbcOnDriveline_same (s : State) :
    (tbcOnDriveline s).time = s.time ∧ (tbcOnDriveline s).pending = s.pending ∧ (tbcOnDriveline s).lp = s.lp ∧
      (tbcOnDriveline s).pc = s.pc ∧ (tbcOnDriveline s).mu = s.mu ∧ (tbcOnDriveline s).me = s.me ∧
      (tbcOnDriveline s).sc = s.sc ∧ (tbcOnDriveline s).fdm = s.fdm ∧ (tbcOnDriveline s).hc = s.hc ∧
      (tbcOnDriveline s).ft = s.ft := by
  dsimp only [tbcOnDriveline]
  refine ⟨?_, ?_, ?_, ?_, ?_, ?_, ?_, ?_, ?_, ?_⟩ <;> repeat' split
  all_goals simp

@[simp] theorem scPublish_same (d : Driveline) (s : State) :
    (scPublish d s).time = s.time ∧ (scPublish d s).pending = s.pending ∧ (scPublish d s).lp = s.lp ∧
      (scPublish d s).pc = s.pc ∧ (scPublish d s).mu = s.mu ∧ (scPublish d s).me = s.me ∧
      (scPublish d s).fdm = s.fdm ∧ (scPublish d s).hc = s.hc ∧ (scPublish d s).ft = s.ft := by
  dsimp only [scPublish]
  refine ⟨?_, ?_, ?_, ?_, ?_, ?_, ?_, ?_, ?_⟩ <;> repeat' split
  all_goals simp

@[simp] theorem evalAbove_same (s : State) :
    (evalAbove s).time = s.time ∧ (evalAbove s).pending = s.pending ∧ (evalAbove s).lp = s.lp ∧
      (evalAbove s).pc = s.pc ∧ (evalAbove s).mu = s.mu ∧ (evalAbove s).me = s.me ∧ (evalAbove s).fdm = s.fdm ∧
      (evalAbove s).hc = s.hc ∧ (evalAbove s).ft = s.ft := by
  dsimp only [evalAbove]
  refine ⟨?_, ?_, ?_, ?_, ?_, ?_, ?_, ?_, ?_⟩ <;> repeat' split
  all_goals simp

@[simp] theorem postAbove_same (b : Bool) (s : State) :
    (postAbove b s).time = s.time ∧ (postAbove b s).pending = s.pending ∧ (postAbove b s).pc = s.pc ∧
      (postAbove b s).mu = s.mu ∧ (postAbove b s).me = s.me ∧ (postAbove b s).vo = s.vo ∧
      (postAbove b s).sc = s.sc ∧ (postAbove b s).fdm = s.fdm ∧ (postAbove b s).hc = s.hc ∧
      (postAbove b s).tbc = s.tbc ∧ (postAbove b s).ft = s.ft ∧ (postAbove b s).undelivered = s.undelivered := by
  dsimp only [postAbove]
  refine ⟨?_, ?_, ?_, ?_, ?_, ?_, ?_, ?_, ?_, ?_, ?_, ?_⟩ <;> repeat' split
  all_goals simp

@[simp] theorem scWindow_same (always : Bool) (s : State) :
    (scWindow always s).time = s.time ∧ (scWindow always s).pending = s.pending ∧ (scWindow always s).pc = s.pc ∧
      (scWindow always s).mu = s.mu ∧ (scWindow always s).me = s.me ∧ (scWindow always s).fdm = s.fdm ∧
      (scWindow always s).hc = s.hc ∧ (scWindow always s).ft = s.ft := by
  dsimp only [scWindow]
  refine ⟨?_, ?_, ?_, ?_, ?_, ?_, ?_, ?_⟩ <;> repeat' split
  all_goals simp

@[simp] theorem ftTell_same (i : Fin 47) (s : State) :
    (ftTell i s).time = s.time ∧ (ftTell i s).pending = s.pending ∧ (ftTell i s).pc = s.pc ∧
      (ftTell i s).mu = s.mu ∧ (ftTell i s).me = s.me ∧ (ftTell i s).fdm = s.fdm ∧ (ftTell i s).hc = s.hc ∧
      (ftTell i s).ft = s.ft := by
  dsimp only [ftTell]
  refine ⟨?_, ?_, ?_, ?_, ?_, ?_, ?_, ?_⟩ <;> repeat' split
  all_goals simp

@[simp] theorem ftStart_same (i : Fin 47) (d : Nat) (s : State) :
    (ftStart i d s).time = s.time ∧ (ftStart i d s).pending = s.pending ∧ (ftStart i d s).pc = s.pc ∧
      (ftStart i d s).mu = s.mu ∧ (ftStart i d s).me = s.me ∧ (ftStart i d s).fdm = s.fdm ∧
      (ftStart i d s).hc = s.hc := by
  dsimp only [ftStart]
  refine ⟨?_, ?_, ?_, ?_, ?_, ?_, ?_⟩ <;> repeat' split
  all_goals simp

@[simp] theorem ftEnd_same (i : Fin 47) (s : State) :
    (ftEnd i s).time = s.time ∧ (ftEnd i s).pending = s.pending ∧ (ftEnd i s).pc = s.pc ∧ (ftEnd i s).mu = s.mu ∧
      (ftEnd i s).me = s.me ∧ (ftEnd i s).fdm = s.fdm ∧ (ftEnd i s).hc = s.hc := by
  dsimp only [ftEnd]
  refine ⟨?_, ?_, ?_, ?_, ?_, ?_, ?_⟩ <;> repeat' split
  all_goals simp

@[simp] theorem ftStart_quiet (i : Fin 47) (d : Nat) (s : State) (h : isTrailerEntry i = false) :
    (ftStart i d s).sc = s.sc ∧ (ftStart i d s).tbc = s.tbc ∧ (ftStart i d s).vo = s.vo
      ∧ (ftStart i d s).undelivered = s.undelivered := by
  dsimp only [ftStart]
  refine ⟨?_, ?_, ?_, ?_⟩ <;> split <;> simp [ftTell_quiet i _ h]

@[simp] theorem ftEnd_quiet (i : Fin 47) (s : State) (h : isTrailerEntry i = false) :
    (ftEnd i s).sc = s.sc ∧ (ftEnd i s).tbc = s.tbc ∧ (ftEnd i s).vo = s.vo
      ∧ (ftEnd i s).undelivered = s.undelivered := by
  dsimp only [ftEnd]
  refine ⟨?_, ?_, ?_, ?_⟩ <;> split <;> simp [ftTell_quiet i _ h]

/-- The entries that do not act through the gear window, by name (R106). -/
@[simp] theorem quiet_entries :
    isTrailerEntry fLinkLost = false ∧ isTrailerEntry fEngineStale = false ∧ isTrailerEntry fScanStale = false
      ∧ isTrailerEntry fDraftInvalid = false ∧ isTrailerEntry fInput = false ∧ isTrailerEntry fFront = false
      ∧ isTrailerEntry fRadar = false ∧ isTrailerEntry fSupplyLow = false ∧ isTrailerEntry fFillTimeout = false
      ∧ isTrailerEntry fSyncTimeout = false ∧ isTrailerEntry fRecoveryFailed = false
      ∧ isTrailerEntry fClutchSlip = false ∧ isTrailerEntry fHitchStall = false
      ∧ isTrailerEntry fLineCheck = false := by decide

/-- No SENSOR_RANGE entry acts through the gear window (R106). -/
@[simp] theorem quiet_sensorRange (r : Fin 16) : isTrailerEntry (fSensorRange r) = false := by
  revert r; decide

/-- No OUTPUT_FAULT entry acts through the gear window (R106). -/
@[simp] theorem quiet_output (c : Fin 14) : isTrailerEntry (fOutput c) = false := by
  revert c; decide

@[simp] theorem ftEndOpt_same (i : Option (Fin 47)) (s : State) :
    (ftEndOpt i s).time = s.time ∧ (ftEndOpt i s).pending = s.pending ∧ (ftEndOpt i s).pc = s.pc ∧
      (ftEndOpt i s).mu = s.mu ∧ (ftEndOpt i s).me = s.me ∧ (ftEndOpt i s).fdm = s.fdm ∧ (ftEndOpt i s).hc = s.hc := by
  dsimp only [ftEndOpt]
  refine ⟨?_, ?_, ?_, ?_, ?_, ?_, ?_⟩ <;> repeat' split
  all_goals simp

/-! ### Front Drive Manager -/

@[simp] theorem fdmChange_same (new : FrontState) (s : State) :
    (fdmChange new s).time = s.time ∧ (fdmChange new s).pending = s.pending ∧ (fdmChange new s).pc = s.pc ∧
      (fdmChange new s).mu = s.mu ∧ (fdmChange new s).me = s.me ∧ (fdmChange new s).sc = s.sc ∧
      (fdmChange new s).hc = s.hc ∧ (fdmChange new s).tbc = s.tbc ∧ (fdmChange new s).ft = s.ft ∧
      (fdmChange new s).undelivered = s.undelivered := by
  dsimp only [fdmChange]
  refine ⟨?_, ?_, ?_, ?_, ?_, ?_, ?_, ?_, ?_, ?_⟩ <;> repeat' split
  all_goals simp

@[simp] theorem fdmSlip_same (s : State) :
    (fdmSlip s).time = s.time ∧ (fdmSlip s).pending = s.pending ∧ (fdmSlip s).lp = s.lp ∧ (fdmSlip s).pc = s.pc ∧
      (fdmSlip s).mu = s.mu ∧ (fdmSlip s).me = s.me ∧ (fdmSlip s).vo = s.vo ∧ (fdmSlip s).sc = s.sc ∧
      (fdmSlip s).hc = s.hc ∧ (fdmSlip s).tbc = s.tbc ∧ (fdmSlip s).ft = s.ft ∧
      (fdmSlip s).undelivered = s.undelivered := by
  dsimp only [fdmSlip]
  refine ⟨?_, ?_, ?_, ?_, ?_, ?_, ?_, ?_, ?_, ?_, ?_, ?_⟩ <;> repeat' split
  all_goals simp

@[simp] theorem fdmGuarded_same (dwell : Bool) (new : FrontState) (s : State) :
    (fdmGuarded dwell new s).time = s.time ∧ (fdmGuarded dwell new s).pending = s.pending ∧
      (fdmGuarded dwell new s).pc = s.pc ∧ (fdmGuarded dwell new s).mu = s.mu ∧
      (fdmGuarded dwell new s).me = s.me ∧ (fdmGuarded dwell new s).sc = s.sc ∧
      (fdmGuarded dwell new s).hc = s.hc ∧ (fdmGuarded dwell new s).tbc = s.tbc ∧
      (fdmGuarded dwell new s).ft = s.ft ∧ (fdmGuarded dwell new s).undelivered = s.undelivered := by
  dsimp only [fdmGuarded]
  refine ⟨?_, ?_, ?_, ?_, ?_, ?_, ?_, ?_, ?_, ?_⟩ <;> repeat' split
  all_goals simp

@[simp] theorem fdmAct_same (s : State) :
    (fdmAct s).time = s.time ∧ (fdmAct s).pending = s.pending ∧ (fdmAct s).pc = s.pc ∧ (fdmAct s).mu = s.mu ∧
      (fdmAct s).me = s.me ∧ (fdmAct s).sc = s.sc ∧ (fdmAct s).hc = s.hc ∧ (fdmAct s).tbc = s.tbc ∧
      (fdmAct s).ft = s.ft ∧ (fdmAct s).undelivered = s.undelivered := by
  dsimp only [fdmAct]
  refine ⟨?_, ?_, ?_, ?_, ?_, ?_, ?_, ?_, ?_, ?_⟩ <;> repeat' split
  all_goals simp

@[simp] theorem fdmEvaluate_same (motion : Bool) (s : State) :
    (fdmEvaluate motion s).time = s.time ∧ (fdmEvaluate motion s).pending = s.pending ∧
      (fdmEvaluate motion s).pc = s.pc ∧ (fdmEvaluate motion s).mu = s.mu ∧ (fdmEvaluate motion s).me = s.me ∧
      (fdmEvaluate motion s).sc = s.sc ∧ (fdmEvaluate motion s).hc = s.hc ∧ (fdmEvaluate motion s).tbc = s.tbc ∧
      (fdmEvaluate motion s).ft = s.ft ∧ (fdmEvaluate motion s).undelivered = s.undelivered := by
  dsimp only [fdmEvaluate]
  refine ⟨?_, ?_, ?_, ?_, ?_, ?_, ?_, ?_, ?_, ?_⟩ <;> repeat' split
  all_goals simp

@[simp] theorem fdmForce_same (s : State) :
    (fdmForce s).time = s.time ∧ (fdmForce s).pending = s.pending ∧ (fdmForce s).pc = s.pc ∧
      (fdmForce s).mu = s.mu ∧ (fdmForce s).me = s.me ∧ (fdmForce s).sc = s.sc ∧ (fdmForce s).hc = s.hc ∧
      (fdmForce s).tbc = s.tbc ∧ (fdmForce s).ft = s.ft ∧ (fdmForce s).undelivered = s.undelivered := by
  dsimp only [fdmForce]
  refine ⟨?_, ?_, ?_, ?_, ?_, ?_, ?_, ?_, ?_, ?_⟩ <;> repeat' split
  all_goals simp

@[simp] theorem fdmOnSupply_same (s : State) :
    (fdmOnSupply s).time = s.time ∧ (fdmOnSupply s).pending = s.pending ∧ (fdmOnSupply s).pc = s.pc ∧
      (fdmOnSupply s).mu = s.mu ∧ (fdmOnSupply s).me = s.me ∧ (fdmOnSupply s).sc = s.sc ∧
      (fdmOnSupply s).hc = s.hc ∧ (fdmOnSupply s).tbc = s.tbc ∧ (fdmOnSupply s).ft = s.ft ∧
      (fdmOnSupply s).undelivered = s.undelivered := by
  dsimp only [fdmOnSupply]
  refine ⟨?_, ?_, ?_, ?_, ?_, ?_, ?_, ?_, ?_, ?_⟩ <;> repeat' split
  all_goals simp

@[simp] theorem fdmOnForced_same (s : State) :
    (fdmOnForced s).time = s.time ∧ (fdmOnForced s).pending = s.pending ∧ (fdmOnForced s).pc = s.pc ∧
      (fdmOnForced s).mu = s.mu ∧ (fdmOnForced s).me = s.me ∧ (fdmOnForced s).sc = s.sc ∧
      (fdmOnForced s).hc = s.hc ∧ (fdmOnForced s).tbc = s.tbc ∧ (fdmOnForced s).ft = s.ft ∧
      (fdmOnForced s).undelivered = s.undelivered := by
  dsimp only [fdmOnForced]
  refine ⟨?_, ?_, ?_, ?_, ?_, ?_, ?_, ?_, ?_, ?_⟩ <;> repeat' split
  all_goals simp

@[simp] theorem fdmOnRestored_same (s : State) :
    (fdmOnRestored s).time = s.time ∧ (fdmOnRestored s).pending = s.pending ∧ (fdmOnRestored s).lp = s.lp ∧
      (fdmOnRestored s).pc = s.pc ∧ (fdmOnRestored s).mu = s.mu ∧ (fdmOnRestored s).me = s.me ∧
      (fdmOnRestored s).vo = s.vo ∧ (fdmOnRestored s).sc = s.sc ∧ (fdmOnRestored s).hc = s.hc ∧
      (fdmOnRestored s).tbc = s.tbc ∧ (fdmOnRestored s).ft = s.ft ∧ (fdmOnRestored s).undelivered = s.undelivered := by
  dsimp only [fdmOnRestored]
  refine ⟨?_, ?_, ?_, ?_, ?_, ?_, ?_, ?_, ?_, ?_, ?_, ?_⟩ <;> repeat' split
  all_goals simp

@[simp] theorem fdmOnLoss_same (s : State) :
    (fdmOnLoss s).time = s.time ∧ (fdmOnLoss s).pending = s.pending ∧ (fdmOnLoss s).pc = s.pc ∧
      (fdmOnLoss s).mu = s.mu ∧ (fdmOnLoss s).me = s.me ∧ (fdmOnLoss s).sc = s.sc ∧ (fdmOnLoss s).hc = s.hc ∧
      (fdmOnLoss s).tbc = s.tbc ∧ (fdmOnLoss s).ft = s.ft ∧ (fdmOnLoss s).undelivered = s.undelivered := by
  dsimp only [fdmOnLoss]
  refine ⟨?_, ?_, ?_, ?_, ?_, ?_, ?_, ?_, ?_, ?_⟩ <;> repeat' split
  all_goals simp

@[simp] theorem fdmOnResume_same (s : State) :
    (fdmOnResume s).time = s.time ∧ (fdmOnResume s).pending = s.pending ∧ (fdmOnResume s).lp = s.lp ∧
      (fdmOnResume s).pc = s.pc ∧ (fdmOnResume s).mu = s.mu ∧ (fdmOnResume s).me = s.me ∧
      (fdmOnResume s).vo = s.vo ∧ (fdmOnResume s).sc = s.sc ∧ (fdmOnResume s).hc = s.hc ∧
      (fdmOnResume s).tbc = s.tbc ∧ (fdmOnResume s).ft = s.ft ∧ (fdmOnResume s).undelivered = s.undelivered := by
  dsimp only [fdmOnResume]
  refine ⟨?_, ?_, ?_, ?_, ?_, ?_, ?_, ?_, ?_, ?_, ?_, ?_⟩ <;> repeat' split
  all_goals simp

@[simp] theorem fdmWaitExpiry_same (s : State) :
    (fdmWaitExpiry s).time = s.time ∧ (fdmWaitExpiry s).pending = s.pending ∧ (fdmWaitExpiry s).pc = s.pc ∧
      (fdmWaitExpiry s).mu = s.mu ∧ (fdmWaitExpiry s).me = s.me ∧ (fdmWaitExpiry s).sc = s.sc ∧
      (fdmWaitExpiry s).hc = s.hc ∧ (fdmWaitExpiry s).tbc = s.tbc ∧ (fdmWaitExpiry s).ft = s.ft ∧
      (fdmWaitExpiry s).undelivered = s.undelivered := by
  dsimp only [fdmWaitExpiry]
  refine ⟨?_, ?_, ?_, ?_, ?_, ?_, ?_, ?_, ?_, ?_⟩ <;> repeat' split
  all_goals simp

/-! ### Hitch Controller -/

@[simp] theorem hcWrite_same (raise lower : Nat) (s : State) :
    (hcWrite raise lower s).time = s.time ∧ (hcWrite raise lower s).pending = s.pending ∧
      (hcWrite raise lower s).lp = s.lp ∧ (hcWrite raise lower s).pc = s.pc ∧ (hcWrite raise lower s).mu = s.mu ∧
      (hcWrite raise lower s).me = s.me ∧ (hcWrite raise lower s).sc = s.sc ∧ (hcWrite raise lower s).fdm = s.fdm ∧
      (hcWrite raise lower s).tbc = s.tbc ∧ (hcWrite raise lower s).ft = s.ft ∧
      (hcWrite raise lower s).undelivered = s.undelivered := by
  dsimp only [hcWrite]
  refine ⟨?_, ?_, ?_, ?_, ?_, ?_, ?_, ?_, ?_, ?_, ?_⟩ <;> repeat' split
  all_goals simp

@[simp] theorem hcDrive_same (s : State) :
    (hcDrive s).time = s.time ∧ (hcDrive s).pending = s.pending ∧ (hcDrive s).lp = s.lp ∧ (hcDrive s).pc = s.pc ∧
      (hcDrive s).mu = s.mu ∧ (hcDrive s).me = s.me ∧ (hcDrive s).sc = s.sc ∧ (hcDrive s).fdm = s.fdm ∧
      (hcDrive s).tbc = s.tbc ∧ (hcDrive s).ft = s.ft ∧ (hcDrive s).undelivered = s.undelivered := by
  dsimp only [hcDrive]
  refine ⟨?_, ?_, ?_, ?_, ?_, ?_, ?_, ?_, ?_, ?_, ?_⟩ <;> repeat' split
  all_goals simp

@[simp] theorem hcChange_same (new ret : HitchState) (s : State) :
    (hcChange new ret s).time = s.time ∧ (hcChange new ret s).pending = s.pending ∧
      (hcChange new ret s).pc = s.pc ∧ (hcChange new ret s).mu = s.mu ∧ (hcChange new ret s).me = s.me ∧
      (hcChange new ret s).sc = s.sc ∧ (hcChange new ret s).fdm = s.fdm ∧ (hcChange new ret s).tbc = s.tbc ∧
      (hcChange new ret s).ft = s.ft ∧ (hcChange new ret s).undelivered = s.undelivered := by
  dsimp only [hcChange]
  refine ⟨?_, ?_, ?_, ?_, ?_, ?_, ?_, ?_, ?_, ?_⟩ <;> repeat' split
  all_goals simp

@[simp] theorem hcHold_same (s : State) :
    (hcHold s).time = s.time ∧ (hcHold s).pending = s.pending ∧ (hcHold s).pc = s.pc ∧ (hcHold s).mu = s.mu ∧
      (hcHold s).me = s.me ∧ (hcHold s).sc = s.sc ∧ (hcHold s).fdm = s.fdm ∧ (hcHold s).tbc = s.tbc ∧
      (hcHold s).ft = s.ft ∧ (hcHold s).undelivered = s.undelivered := by
  dsimp only [hcHold]
  refine ⟨?_, ?_, ?_, ?_, ?_, ?_, ?_, ?_, ?_, ?_⟩ <;> repeat' split
  all_goals simp

@[simp] theorem hcUnhold_same (s : State) :
    (hcUnhold s).time = s.time ∧ (hcUnhold s).pending = s.pending ∧ (hcUnhold s).pc = s.pc ∧
      (hcUnhold s).mu = s.mu ∧ (hcUnhold s).me = s.me ∧ (hcUnhold s).sc = s.sc ∧ (hcUnhold s).fdm = s.fdm ∧
      (hcUnhold s).tbc = s.tbc ∧ (hcUnhold s).ft = s.ft ∧ (hcUnhold s).undelivered = s.undelivered := by
  dsimp only [hcUnhold]
  refine ⟨?_, ?_, ?_, ?_, ?_, ?_, ?_, ?_, ?_, ?_⟩ <;> repeat' split
  all_goals simp

@[simp] theorem hcChangeOrHold_same (new : HitchState) (s : State) :
    (hcChangeOrHold new s).time = s.time ∧ (hcChangeOrHold new s).pending = s.pending ∧
      (hcChangeOrHold new s).pc = s.pc ∧ (hcChangeOrHold new s).mu = s.mu ∧ (hcChangeOrHold new s).me = s.me ∧
      (hcChangeOrHold new s).sc = s.sc ∧ (hcChangeOrHold new s).fdm = s.fdm ∧ (hcChangeOrHold new s).tbc = s.tbc ∧
      (hcChangeOrHold new s).ft = s.ft ∧ (hcChangeOrHold new s).undelivered = s.undelivered := by
  dsimp only [hcChangeOrHold]
  refine ⟨?_, ?_, ?_, ?_, ?_, ?_, ?_, ?_, ?_, ?_⟩ <;> repeat' split
  all_goals simp

@[simp] theorem hcStop_same (s : State) :
    (hcStop s).time = s.time ∧ (hcStop s).pending = s.pending ∧ (hcStop s).pc = s.pc ∧ (hcStop s).mu = s.mu ∧
      (hcStop s).me = s.me ∧ (hcStop s).sc = s.sc ∧ (hcStop s).fdm = s.fdm ∧ (hcStop s).tbc = s.tbc ∧
      (hcStop s).ft = s.ft ∧ (hcStop s).undelivered = s.undelivered := by
  dsimp only [hcStop]
  refine ⟨?_, ?_, ?_, ?_, ?_, ?_, ?_, ?_, ?_, ?_⟩ <;> repeat' split
  all_goals simp

@[simp] theorem hcExitTest_same (s : State) :
    (hcExitTest s).time = s.time ∧ (hcExitTest s).pending = s.pending ∧ (hcExitTest s).pc = s.pc ∧
      (hcExitTest s).mu = s.mu ∧ (hcExitTest s).me = s.me ∧ (hcExitTest s).sc = s.sc ∧ (hcExitTest s).fdm = s.fdm ∧
      (hcExitTest s).tbc = s.tbc ∧ (hcExitTest s).ft = s.ft ∧ (hcExitTest s).undelivered = s.undelivered := by
  dsimp only [hcExitTest]
  refine ⟨?_, ?_, ?_, ?_, ?_, ?_, ?_, ?_, ?_, ?_⟩ <;> repeat' split
  all_goals simp

@[simp] theorem hcOnSnapshot_same (s : State) :
    (hcOnSnapshot s).time = s.time ∧ (hcOnSnapshot s).pending = s.pending ∧ (hcOnSnapshot s).pc = s.pc ∧
      (hcOnSnapshot s).mu = s.mu ∧ (hcOnSnapshot s).me = s.me ∧ (hcOnSnapshot s).sc = s.sc ∧
      (hcOnSnapshot s).fdm = s.fdm ∧ (hcOnSnapshot s).tbc = s.tbc ∧ (hcOnSnapshot s).ft = s.ft ∧
      (hcOnSnapshot s).undelivered = s.undelivered := by
  dsimp only [hcOnSnapshot]
  refine ⟨?_, ?_, ?_, ?_, ?_, ?_, ?_, ?_, ?_, ?_⟩ <;> repeat' split
  all_goals simp

@[simp] theorem hcOnStale_same (s : State) :
    (hcOnStale s).time = s.time ∧ (hcOnStale s).pending = s.pending ∧ (hcOnStale s).pc = s.pc ∧
      (hcOnStale s).mu = s.mu ∧ (hcOnStale s).me = s.me ∧ (hcOnStale s).sc = s.sc ∧ (hcOnStale s).fdm = s.fdm ∧
      (hcOnStale s).tbc = s.tbc ∧ (hcOnStale s).ft = s.ft ∧ (hcOnStale s).undelivered = s.undelivered := by
  dsimp only [hcOnStale]
  refine ⟨?_, ?_, ?_, ?_, ?_, ?_, ?_, ?_, ?_, ?_⟩ <;> repeat' split
  all_goals simp

@[simp] theorem hcPass_same (s : State) :
    (hcPass s).time = s.time ∧ (hcPass s).pending = s.pending ∧ (hcPass s).lp = s.lp ∧ (hcPass s).pc = s.pc ∧
      (hcPass s).mu = s.mu ∧ (hcPass s).me = s.me ∧ (hcPass s).sc = s.sc ∧ (hcPass s).fdm = s.fdm ∧
      (hcPass s).tbc = s.tbc ∧ (hcPass s).ft = s.ft ∧ (hcPass s).undelivered = s.undelivered := by
  dsimp only [hcPass]
  refine ⟨?_, ?_, ?_, ?_, ?_, ?_, ?_, ?_, ?_, ?_, ?_⟩ <;> repeat' split
  all_goals simp

@[simp] theorem hcStallTest_same (s : State) :
    (hcStallTest s).time = s.time ∧ (hcStallTest s).pending = s.pending ∧ (hcStallTest s).pc = s.pc ∧
      (hcStallTest s).mu = s.mu ∧ (hcStallTest s).me = s.me ∧ (hcStallTest s).sc = s.sc ∧
      (hcStallTest s).fdm = s.fdm ∧ (hcStallTest s).tbc = s.tbc ∧ (hcStallTest s).undelivered = s.undelivered := by
  dsimp only [hcStallTest]
  refine ⟨?_, ?_, ?_, ?_, ?_, ?_, ?_, ?_, ?_⟩ <;> repeat' split
  all_goals simp

@[simp] theorem hcDraftAct_same (s : State) :
    (hcDraftAct s).time = s.time ∧ (hcDraftAct s).pending = s.pending ∧ (hcDraftAct s).pc = s.pc ∧
      (hcDraftAct s).mu = s.mu ∧ (hcDraftAct s).me = s.me ∧ (hcDraftAct s).sc = s.sc ∧ (hcDraftAct s).fdm = s.fdm ∧
      (hcDraftAct s).tbc = s.tbc ∧ (hcDraftAct s).undelivered = s.undelivered := by
  dsimp only [hcDraftAct]
  refine ⟨?_, ?_, ?_, ?_, ?_, ?_, ?_, ?_, ?_⟩ <;> repeat' split
  all_goals simp

@[simp] theorem hcApplyPending_same (s : State) :
    (hcApplyPending s).time = s.time ∧ (hcApplyPending s).pending = s.pending ∧ (hcApplyPending s).pc = s.pc ∧
      (hcApplyPending s).mu = s.mu ∧ (hcApplyPending s).me = s.me ∧ (hcApplyPending s).sc = s.sc ∧
      (hcApplyPending s).fdm = s.fdm ∧ (hcApplyPending s).tbc = s.tbc ∧ (hcApplyPending s).ft = s.ft ∧
      (hcApplyPending s).undelivered = s.undelivered := by
  dsimp only [hcApplyPending]
  refine ⟨?_, ?_, ?_, ?_, ?_, ?_, ?_, ?_, ?_, ?_⟩ <;> repeat' split
  all_goals simp

@[simp] theorem hcStoppedResult_same (s : State) :
    (hcStoppedResult s).time = s.time ∧ (hcStoppedResult s).pending = s.pending ∧ (hcStoppedResult s).pc = s.pc ∧
      (hcStoppedResult s).mu = s.mu ∧ (hcStoppedResult s).me = s.me ∧ (hcStoppedResult s).sc = s.sc ∧
      (hcStoppedResult s).fdm = s.fdm ∧ (hcStoppedResult s).tbc = s.tbc ∧
      (hcStoppedResult s).undelivered = s.undelivered := by
  dsimp only [hcStoppedResult]
  refine ⟨?_, ?_, ?_, ?_, ?_, ?_, ?_, ?_, ?_⟩ <;> repeat' split
  all_goals simp

@[simp] theorem hcDraftResult_same (d : Int) (valid : Bool) (s : State) :
    (hcDraftResult d valid s).time = s.time ∧ (hcDraftResult d valid s).pending = s.pending ∧
      (hcDraftResult d valid s).pc = s.pc ∧ (hcDraftResult d valid s).mu = s.mu ∧
      (hcDraftResult d valid s).me = s.me ∧ (hcDraftResult d valid s).sc = s.sc ∧
      (hcDraftResult d valid s).fdm = s.fdm ∧ (hcDraftResult d valid s).tbc = s.tbc ∧
      (hcDraftResult d valid s).undelivered = s.undelivered := by
  dsimp only [hcDraftResult]
  refine ⟨?_, ?_, ?_, ?_, ?_, ?_, ?_, ?_, ?_⟩ <;> repeat' split
  all_goals simp

@[simp] theorem hcShock_same (s : State) :
    (hcShock s).time = s.time ∧ (hcShock s).pending = s.pending ∧ (hcShock s).pc = s.pc ∧ (hcShock s).mu = s.mu ∧
      (hcShock s).me = s.me ∧ (hcShock s).sc = s.sc ∧ (hcShock s).fdm = s.fdm ∧ (hcShock s).tbc = s.tbc ∧
      (hcShock s).ft = s.ft ∧ (hcShock s).undelivered = s.undelivered := by
  dsimp only [hcShock]
  refine ⟨?_, ?_, ?_, ?_, ?_, ?_, ?_, ?_, ?_, ?_⟩ <;> repeat' split
  all_goals simp

@[simp] theorem hcOnSupply_same (s : State) :
    (hcOnSupply s).time = s.time ∧ (hcOnSupply s).pending = s.pending ∧ (hcOnSupply s).pc = s.pc ∧
      (hcOnSupply s).mu = s.mu ∧ (hcOnSupply s).me = s.me ∧ (hcOnSupply s).sc = s.sc ∧ (hcOnSupply s).fdm = s.fdm ∧
      (hcOnSupply s).tbc = s.tbc ∧ (hcOnSupply s).ft = s.ft ∧ (hcOnSupply s).undelivered = s.undelivered := by
  dsimp only [hcOnSupply]
  refine ⟨?_, ?_, ?_, ?_, ?_, ?_, ?_, ?_, ?_, ?_⟩ <;> repeat' split
  all_goals simp

@[simp] theorem hcOnLoss_same (s : State) :
    (hcOnLoss s).time = s.time ∧ (hcOnLoss s).pending = s.pending ∧ (hcOnLoss s).pc = s.pc ∧
      (hcOnLoss s).mu = s.mu ∧ (hcOnLoss s).me = s.me ∧ (hcOnLoss s).sc = s.sc ∧ (hcOnLoss s).fdm = s.fdm ∧
      (hcOnLoss s).tbc = s.tbc ∧ (hcOnLoss s).ft = s.ft ∧ (hcOnLoss s).undelivered = s.undelivered := by
  dsimp only [hcOnLoss]
  refine ⟨?_, ?_, ?_, ?_, ?_, ?_, ?_, ?_, ?_, ?_⟩ <;> repeat' split
  all_goals simp

@[simp] theorem hcOnResume_same (s : State) :
    (hcOnResume s).time = s.time ∧ (hcOnResume s).pending = s.pending ∧ (hcOnResume s).pc = s.pc ∧
      (hcOnResume s).mu = s.mu ∧ (hcOnResume s).me = s.me ∧ (hcOnResume s).sc = s.sc ∧ (hcOnResume s).fdm = s.fdm ∧
      (hcOnResume s).tbc = s.tbc ∧ (hcOnResume s).ft = s.ft ∧ (hcOnResume s).undelivered = s.undelivered := by
  dsimp only [hcOnResume]
  refine ⟨?_, ?_, ?_, ?_, ?_, ?_, ?_, ?_, ?_, ?_⟩ <;> repeat' split
  all_goals simp

@[simp] theorem hcOnForced_same (i : Fin 14) (s : State) :
    (hcOnForced i s).time = s.time ∧ (hcOnForced i s).pending = s.pending ∧ (hcOnForced i s).pc = s.pc ∧
      (hcOnForced i s).mu = s.mu ∧ (hcOnForced i s).me = s.me ∧ (hcOnForced i s).sc = s.sc ∧
      (hcOnForced i s).fdm = s.fdm ∧ (hcOnForced i s).tbc = s.tbc ∧ (hcOnForced i s).ft = s.ft ∧
      (hcOnForced i s).undelivered = s.undelivered := by
  dsimp only [hcOnForced]
  refine ⟨?_, ?_, ?_, ?_, ?_, ?_, ?_, ?_, ?_, ?_⟩ <;> repeat' split
  all_goals simp

@[simp] theorem hcOnRestored_same (i : Fin 14) (s : State) :
    (hcOnRestored i s).time = s.time ∧ (hcOnRestored i s).pending = s.pending ∧ (hcOnRestored i s).pc = s.pc ∧
      (hcOnRestored i s).mu = s.mu ∧ (hcOnRestored i s).me = s.me ∧ (hcOnRestored i s).sc = s.sc ∧
      (hcOnRestored i s).fdm = s.fdm ∧ (hcOnRestored i s).tbc = s.tbc ∧ (hcOnRestored i s).ft = s.ft ∧
      (hcOnRestored i s).undelivered = s.undelivered := by
  dsimp only [hcOnRestored]
  refine ⟨?_, ?_, ?_, ?_, ?_, ?_, ?_, ?_, ?_, ?_⟩ <;> repeat' split
  all_goals simp

/-! ### Trailer Brake Controller -/

@[simp] theorem tbcSuppEnter_same (s : State) :
    (tbcSuppEnter s).time = s.time ∧ (tbcSuppEnter s).pending = s.pending ∧ (tbcSuppEnter s).lp = s.lp ∧
      (tbcSuppEnter s).pc = s.pc ∧ (tbcSuppEnter s).mu = s.mu ∧ (tbcSuppEnter s).me = s.me ∧
      (tbcSuppEnter s).vo = s.vo ∧ (tbcSuppEnter s).sc = s.sc ∧ (tbcSuppEnter s).fdm = s.fdm ∧
      (tbcSuppEnter s).hc = s.hc ∧ (tbcSuppEnter s).ft = s.ft ∧ (tbcSuppEnter s).undelivered = s.undelivered := by
  dsimp only [tbcSuppEnter]
  refine ⟨?_, ?_, ?_, ?_, ?_, ?_, ?_, ?_, ?_, ?_, ?_, ?_⟩ <;> repeat' split
  all_goals simp

@[simp] theorem checkEnd_same (o : CheckOutcome) (stage : Nat) (s : State) :
    (checkEnd o stage s).time = s.time ∧ (checkEnd o stage s).pending = s.pending ∧
      (checkEnd o stage s).pc = s.pc ∧ (checkEnd o stage s).mu = s.mu ∧ (checkEnd o stage s).me = s.me ∧
      (checkEnd o stage s).vo = s.vo ∧ (checkEnd o stage s).sc = s.sc ∧ (checkEnd o stage s).fdm = s.fdm ∧
      (checkEnd o stage s).hc = s.hc ∧ (checkEnd o stage s).undelivered = s.undelivered := by
  dsimp only [checkEnd]
  refine ⟨?_, ?_, ?_, ?_, ?_, ?_, ?_, ?_, ?_, ?_⟩ <;> repeat' split
  all_goals simp

@[simp] theorem checkAbort_same (s : State) :
    (checkAbort s).time = s.time ∧ (checkAbort s).pending = s.pending ∧ (checkAbort s).pc = s.pc ∧
      (checkAbort s).mu = s.mu ∧ (checkAbort s).me = s.me ∧ (checkAbort s).vo = s.vo ∧ (checkAbort s).sc = s.sc ∧
      (checkAbort s).fdm = s.fdm ∧ (checkAbort s).hc = s.hc ∧ (checkAbort s).undelivered = s.undelivered := by
  dsimp only [checkAbort]
  refine ⟨?_, ?_, ?_, ?_, ?_, ?_, ?_, ?_, ?_, ?_⟩ <;> repeat' split
  all_goals simp

@[simp] theorem lowDiscard_same (s : State) :
    (lowDiscard s).time = s.time ∧ (lowDiscard s).pending = s.pending ∧ (lowDiscard s).pc = s.pc ∧
      (lowDiscard s).mu = s.mu ∧ (lowDiscard s).me = s.me ∧ (lowDiscard s).fdm = s.fdm ∧ (lowDiscard s).hc = s.hc := by
  dsimp only [lowDiscard]
  refine ⟨?_, ?_, ?_, ?_, ?_, ?_, ?_⟩ <;> repeat' split
  all_goals simp

@[simp] theorem chargeAct_same (old : BrakeRecord) (s : State) :
    (chargeAct old s).time = s.time ∧ (chargeAct old s).pending = s.pending ∧ (chargeAct old s).pc = s.pc ∧
      (chargeAct old s).mu = s.mu ∧ (chargeAct old s).me = s.me ∧ (chargeAct old s).fdm = s.fdm ∧
      (chargeAct old s).hc = s.hc := by
  dsimp only [chargeAct]
  refine ⟨?_, ?_, ?_, ?_, ?_, ?_, ?_⟩ <;> repeat' split
  all_goals simp

@[simp] theorem preBrakeMode_same (s : State) :
    (preBrakeMode s).time = s.time ∧ (preBrakeMode s).pending = s.pending ∧ (preBrakeMode s).lp = s.lp ∧
      (preBrakeMode s).pc = s.pc ∧ (preBrakeMode s).mu = s.mu ∧ (preBrakeMode s).me = s.me ∧
      (preBrakeMode s).vo = s.vo ∧ (preBrakeMode s).sc = s.sc ∧ (preBrakeMode s).fdm = s.fdm ∧
      (preBrakeMode s).hc = s.hc ∧ (preBrakeMode s).ft = s.ft ∧ (preBrakeMode s).undelivered = s.undelivered := by
  dsimp only [preBrakeMode]
  refine ⟨?_, ?_, ?_, ?_, ?_, ?_, ?_, ?_, ?_, ?_, ?_, ?_⟩ <;> repeat' split
  all_goals simp

@[simp] theorem applyMode_same (m : TrailerMode) (present : Bool) (s : State) :
    (applyMode m present s).time = s.time ∧ (applyMode m present s).pending = s.pending ∧
      (applyMode m present s).pc = s.pc ∧ (applyMode m present s).mu = s.mu ∧ (applyMode m present s).me = s.me ∧
      (applyMode m present s).fdm = s.fdm ∧ (applyMode m present s).hc = s.hc := by
  dsimp only [applyMode]
  refine ⟨?_, ?_, ?_, ?_, ?_, ?_, ?_⟩ <;> repeat' split
  all_goals simp

@[simp] theorem tbcPedal_same (pedal : Nat × Bool) (s : State) :
    (tbcPedal pedal s).time = s.time ∧ (tbcPedal pedal s).pending = s.pending ∧ (tbcPedal pedal s).lp = s.lp ∧
      (tbcPedal pedal s).pc = s.pc ∧ (tbcPedal pedal s).mu = s.mu ∧ (tbcPedal pedal s).me = s.me ∧
      (tbcPedal pedal s).vo = s.vo ∧ (tbcPedal pedal s).sc = s.sc ∧
      (tbcPedal pedal s).fdm = s.fdm ∧ (tbcPedal pedal s).hc = s.hc ∧ (tbcPedal pedal s).ft = s.ft ∧
      (tbcPedal pedal s).undelivered = s.undelivered := by
  dsimp only [tbcPedal]
  refine ⟨?_, ?_, ?_, ?_, ?_, ?_, ?_, ?_, ?_, ?_, ?_, ?_⟩ <;> repeat' split
  all_goals simp

@[simp] theorem tbcTake_same (s : State) :
    (tbcTake s).time = s.time ∧ (tbcTake s).pending = s.pending ∧ (tbcTake s).lp = s.lp ∧ (tbcTake s).pc = s.pc ∧
      (tbcTake s).mu = s.mu ∧ (tbcTake s).me = s.me ∧ (tbcTake s).vo = s.vo ∧ (tbcTake s).sc = s.sc ∧
      (tbcTake s).fdm = s.fdm ∧ (tbcTake s).hc = s.hc ∧ (tbcTake s).ft = s.ft ∧
      (tbcTake s).undelivered = s.undelivered := by
  dsimp only [tbcTake]
  refine ⟨?_, ?_, ?_, ?_, ?_, ?_, ?_, ?_, ?_, ?_, ?_, ?_⟩ <;> repeat' split
  all_goals simp

@[simp] theorem tbcInvalidate_same (s : State) :
    (tbcInvalidate s).time = s.time ∧ (tbcInvalidate s).pending = s.pending ∧ (tbcInvalidate s).lp = s.lp ∧
      (tbcInvalidate s).pc = s.pc ∧ (tbcInvalidate s).mu = s.mu ∧ (tbcInvalidate s).me = s.me ∧
      (tbcInvalidate s).vo = s.vo ∧ (tbcInvalidate s).sc = s.sc ∧
      (tbcInvalidate s).fdm = s.fdm ∧ (tbcInvalidate s).hc = s.hc ∧ (tbcInvalidate s).ft = s.ft ∧
      (tbcInvalidate s).undelivered = s.undelivered := by
  dsimp only [tbcInvalidate]
  refine ⟨?_, ?_, ?_, ?_, ?_, ?_, ?_, ?_, ?_, ?_, ?_, ?_⟩ <;> repeat' split
  all_goals simp

/-- The stale indication invalidates the four roles and keeps the measured values of both lines (R178). -/
theorem tbcInvalidate_tbc (s : State) :
    (tbcInvalidate s).tbc = { s.tbc with cur := { s.tbc.cur with
      ctrlValid := false, suppValid := false, pPedal := 0, pedalValid := false
      braking := decide (s.tbc.pBrakeOn ≤ 0) } } := rfl

@[simp] theorem tbcSuppMeasure_same (s : State) :
    (tbcSuppMeasure s).time = s.time ∧ (tbcSuppMeasure s).pending = s.pending ∧ (tbcSuppMeasure s).lp = s.lp ∧
      (tbcSuppMeasure s).pc = s.pc ∧ (tbcSuppMeasure s).mu = s.mu ∧ (tbcSuppMeasure s).me = s.me ∧
      (tbcSuppMeasure s).vo = s.vo ∧ (tbcSuppMeasure s).sc = s.sc ∧ (tbcSuppMeasure s).fdm = s.fdm ∧
      (tbcSuppMeasure s).hc = s.hc ∧ (tbcSuppMeasure s).ft = s.ft ∧ (tbcSuppMeasure s).undelivered = s.undelivered := by
  dsimp only [tbcSuppMeasure]
  refine ⟨?_, ?_, ?_, ?_, ?_, ?_, ?_, ?_, ?_, ?_, ?_, ?_⟩ <;> repeat' split
  all_goals simp

@[simp] theorem chargeTest_same (s : State) :
    (chargeTest s).time = s.time ∧ (chargeTest s).pending = s.pending ∧ (chargeTest s).lp = s.lp ∧
      (chargeTest s).pc = s.pc ∧ (chargeTest s).mu = s.mu ∧ (chargeTest s).me = s.me ∧ (chargeTest s).vo = s.vo ∧
      (chargeTest s).sc = s.sc ∧ (chargeTest s).fdm = s.fdm ∧ (chargeTest s).hc = s.hc ∧ (chargeTest s).ft = s.ft ∧
      (chargeTest s).undelivered = s.undelivered := by
  dsimp only [chargeTest]
  refine ⟨?_, ?_, ?_, ?_, ?_, ?_, ?_, ?_, ?_, ?_, ?_, ?_⟩ <;> repeat' split
  all_goals simp

@[simp] theorem lowReport_same (s : State) :
    (lowReport s).time = s.time ∧ (lowReport s).pending = s.pending ∧ (lowReport s).pc = s.pc ∧
      (lowReport s).mu = s.mu ∧ (lowReport s).me = s.me ∧ (lowReport s).fdm = s.fdm ∧ (lowReport s).hc = s.hc := by
  dsimp only [lowReport]
  refine ⟨?_, ?_, ?_, ?_, ?_, ?_, ?_⟩ <;> repeat' split
  all_goals simp

@[simp] theorem lowTest_same (s : State) :
    (lowTest s).time = s.time ∧ (lowTest s).pending = s.pending ∧ (lowTest s).pc = s.pc ∧ (lowTest s).mu = s.mu ∧
      (lowTest s).me = s.me ∧ (lowTest s).fdm = s.fdm ∧ (lowTest s).hc = s.hc := by
  dsimp only [lowTest]
  refine ⟨?_, ?_, ?_, ?_, ?_, ?_, ?_⟩ <;> repeat' split
  all_goals simp

@[simp] theorem lowStale_same (s : State) :
    (lowStale s).time = s.time ∧ (lowStale s).pending = s.pending ∧ (lowStale s).lp = s.lp ∧
      (lowStale s).pc = s.pc ∧ (lowStale s).mu = s.mu ∧ (lowStale s).me = s.me ∧ (lowStale s).vo = s.vo ∧
      (lowStale s).sc = s.sc ∧ (lowStale s).fdm = s.fdm ∧ (lowStale s).hc = s.hc ∧ (lowStale s).ft = s.ft ∧
      (lowStale s).undelivered = s.undelivered := by
  dsimp only [lowStale]
  refine ⟨?_, ?_, ?_, ?_, ?_, ?_, ?_, ?_, ?_, ?_, ?_, ?_⟩ <;> repeat' split
  all_goals simp

@[simp] theorem deviationTest_same (s : State) :
    (deviationTest s).time = s.time ∧ (deviationTest s).pending = s.pending ∧ (deviationTest s).pc = s.pc ∧
      (deviationTest s).mu = s.mu ∧ (deviationTest s).me = s.me ∧ (deviationTest s).fdm = s.fdm ∧
      (deviationTest s).hc = s.hc := by
  dsimp only [deviationTest]
  refine ⟨?_, ?_, ?_, ?_, ?_, ?_, ?_⟩ <;> repeat' split
  all_goals simp

@[simp] theorem checkTest_same (s : State) :
    (checkTest s).time = s.time ∧ (checkTest s).pending = s.pending ∧ (checkTest s).pc = s.pc ∧
      (checkTest s).mu = s.mu ∧ (checkTest s).me = s.me ∧ (checkTest s).vo = s.vo ∧ (checkTest s).sc = s.sc ∧
      (checkTest s).fdm = s.fdm ∧ (checkTest s).hc = s.hc ∧ (checkTest s).undelivered = s.undelivered := by
  dsimp only [checkTest]
  refine ⟨?_, ?_, ?_, ?_, ?_, ?_, ?_, ?_, ?_, ?_⟩ <;> repeat' split
  all_goals simp

@[simp] theorem tbcOnSnapshot_same (s : State) :
    (tbcOnSnapshot s).time = s.time ∧ (tbcOnSnapshot s).pending = s.pending ∧ (tbcOnSnapshot s).pc = s.pc ∧
      (tbcOnSnapshot s).mu = s.mu ∧ (tbcOnSnapshot s).me = s.me ∧ (tbcOnSnapshot s).fdm = s.fdm ∧
      (tbcOnSnapshot s).hc = s.hc := by
  dsimp only [tbcOnSnapshot]
  refine ⟨?_, ?_, ?_, ?_, ?_, ?_, ?_⟩ <;> repeat' split
  all_goals simp

@[simp] theorem tbcOnStale_same (s : State) :
    (tbcOnStale s).time = s.time ∧ (tbcOnStale s).pending = s.pending ∧ (tbcOnStale s).pc = s.pc ∧
      (tbcOnStale s).mu = s.mu ∧ (tbcOnStale s).me = s.me ∧ (tbcOnStale s).fdm = s.fdm ∧ (tbcOnStale s).hc = s.hc := by
  dsimp only [tbcOnStale]
  refine ⟨?_, ?_, ?_, ?_, ?_, ?_, ?_⟩ <;> repeat' split
  all_goals simp

@[simp] theorem policyPark_same (s : State) :
    (policyPark s).time = s.time ∧ (policyPark s).pending = s.pending ∧ (policyPark s).pc = s.pc ∧
      (policyPark s).mu = s.mu ∧ (policyPark s).me = s.me ∧ (policyPark s).fdm = s.fdm ∧ (policyPark s).hc = s.hc := by
  dsimp only [policyPark]
  refine ⟨?_, ?_, ?_, ?_, ?_, ?_, ?_⟩ <;> repeat' split
  all_goals simp

@[simp] theorem tbcOnMotion_same (s : State) :
    (tbcOnMotion s).time = s.time ∧ (tbcOnMotion s).pending = s.pending ∧ (tbcOnMotion s).pc = s.pc ∧
      (tbcOnMotion s).mu = s.mu ∧ (tbcOnMotion s).me = s.me ∧ (tbcOnMotion s).fdm = s.fdm ∧
      (tbcOnMotion s).hc = s.hc := by
  dsimp only [tbcOnMotion]
  refine ⟨?_, ?_, ?_, ?_, ?_, ?_, ?_⟩ <;> repeat' split
  all_goals simp

@[simp] theorem tbcOnSupply_same (s : State) :
    (tbcOnSupply s).time = s.time ∧ (tbcOnSupply s).pending = s.pending ∧ (tbcOnSupply s).pc = s.pc ∧
      (tbcOnSupply s).mu = s.mu ∧ (tbcOnSupply s).me = s.me ∧ (tbcOnSupply s).fdm = s.fdm ∧
      (tbcOnSupply s).hc = s.hc := by
  dsimp only [tbcOnSupply]
  refine ⟨?_, ?_, ?_, ?_, ?_, ?_, ?_⟩ <;> repeat' split
  all_goals simp

@[simp] theorem tbcOnForced_same (i : Fin 14) (s : State) :
    (tbcOnForced i s).time = s.time ∧ (tbcOnForced i s).pending = s.pending ∧ (tbcOnForced i s).pc = s.pc ∧
      (tbcOnForced i s).mu = s.mu ∧ (tbcOnForced i s).me = s.me ∧ (tbcOnForced i s).fdm = s.fdm ∧
      (tbcOnForced i s).hc = s.hc := by
  dsimp only [tbcOnForced]
  refine ⟨?_, ?_, ?_, ?_, ?_, ?_, ?_⟩ <;> repeat' split
  all_goals simp

@[simp] theorem tbcOnLoss_same (s : State) :
    (tbcOnLoss s).time = s.time ∧ (tbcOnLoss s).pending = s.pending ∧ (tbcOnLoss s).pc = s.pc ∧
      (tbcOnLoss s).mu = s.mu ∧ (tbcOnLoss s).me = s.me ∧ (tbcOnLoss s).fdm = s.fdm ∧ (tbcOnLoss s).hc = s.hc := by
  dsimp only [tbcOnLoss]
  refine ⟨?_, ?_, ?_, ?_, ?_, ?_, ?_⟩ <;> repeat' split
  all_goals simp

@[simp] theorem tbcOnResume_same (s : State) :
    (tbcOnResume s).time = s.time ∧ (tbcOnResume s).pending = s.pending ∧ (tbcOnResume s).lp = s.lp ∧
      (tbcOnResume s).pc = s.pc ∧ (tbcOnResume s).mu = s.mu ∧ (tbcOnResume s).me = s.me ∧
      (tbcOnResume s).sc = s.sc ∧ (tbcOnResume s).fdm = s.fdm ∧ (tbcOnResume s).hc = s.hc ∧
      (tbcOnResume s).ft = s.ft := by
  dsimp only [tbcOnResume]
  refine ⟨?_, ?_, ?_, ?_, ?_, ?_, ?_, ?_, ?_, ?_⟩ <;> repeat' split
  all_goals simp

@[simp] theorem tbcChargeExpiry_same (s : State) :
    (tbcChargeExpiry s).time = s.time ∧ (tbcChargeExpiry s).pending = s.pending ∧ (tbcChargeExpiry s).pc = s.pc ∧
      (tbcChargeExpiry s).mu = s.mu ∧ (tbcChargeExpiry s).me = s.me ∧ (tbcChargeExpiry s).fdm = s.fdm ∧
      (tbcChargeExpiry s).hc = s.hc := by
  dsimp only [tbcChargeExpiry]
  refine ⟨?_, ?_, ?_, ?_, ?_, ?_, ?_⟩ <;> repeat' split
  all_goals simp

@[simp] theorem tbcStageExpiry_same (s : State) :
    (tbcStageExpiry s).time = s.time ∧ (tbcStageExpiry s).pending = s.pending ∧ (tbcStageExpiry s).pc = s.pc ∧
      (tbcStageExpiry s).mu = s.mu ∧ (tbcStageExpiry s).me = s.me ∧ (tbcStageExpiry s).fdm = s.fdm ∧
      (tbcStageExpiry s).hc = s.hc := by
  dsimp only [tbcStageExpiry]
  refine ⟨?_, ?_, ?_, ?_, ?_, ?_, ?_⟩ <;> repeat' split
  all_goals simp

@[simp] theorem tbcRunOutExpiry_same (s : State) :
    (tbcRunOutExpiry s).time = s.time ∧ (tbcRunOutExpiry s).pending = s.pending ∧ (tbcRunOutExpiry s).lp = s.lp ∧
      (tbcRunOutExpiry s).pc = s.pc ∧ (tbcRunOutExpiry s).mu = s.mu ∧ (tbcRunOutExpiry s).me = s.me ∧
      (tbcRunOutExpiry s).sc = s.sc ∧ (tbcRunOutExpiry s).fdm = s.fdm ∧ (tbcRunOutExpiry s).hc = s.hc ∧
      (tbcRunOutExpiry s).ft = s.ft := by
  dsimp only [tbcRunOutExpiry]
  refine ⟨?_, ?_, ?_, ?_, ?_, ?_, ?_, ?_, ?_, ?_⟩ <;> repeat' split
  all_goals simp

end Sys2Proof.Machine
end

