-- ==== Sys2Proof/Laws/FrameShift.lean ====
section
/-! SUPPORT. What each operation of the Shift Controller leaves of the state (chapters 06 and 07). An operation that
takes a continuation keeps what its continuation keeps. -/

namespace Sys2Proof.Machine

open Sys2Proof

@[simp] theorem writeLocked_same (s : State) :
    (writeLocked s).time = s.time ∧ (writeLocked s).pending = s.pending ∧ (writeLocked s).lp = s.lp ∧
      (writeLocked s).pc = s.pc ∧ (writeLocked s).mu = s.mu ∧ (writeLocked s).me = s.me ∧
      (writeLocked s).sc = s.sc ∧ (writeLocked s).fdm = s.fdm ∧ (writeLocked s).hc = s.hc ∧
      (writeLocked s).tbc = s.tbc ∧ (writeLocked s).ft = s.ft ∧ (writeLocked s).undelivered = s.undelivered := by
  dsimp only [writeLocked]
  refine ⟨?_, ?_, ?_, ?_, ?_, ?_, ?_, ?_, ?_, ?_, ?_, ?_⟩ <;> repeat' split
  all_goals simp

@[simp] theorem enterIdle_same (s : State) :
    (enterIdle s).time = s.time ∧ (enterIdle s).pending = s.pending ∧ (enterIdle s).lp = s.lp ∧
      (enterIdle s).pc = s.pc ∧ (enterIdle s).mu = s.mu ∧ (enterIdle s).me = s.me ∧ (enterIdle s).fdm = s.fdm ∧
      (enterIdle s).hc = s.hc ∧ (enterIdle s).ft = s.ft := by
  dsimp only [enterIdle]
  refine ⟨?_, ?_, ?_, ?_, ?_, ?_, ?_, ?_, ?_⟩ <;> repeat' split
  all_goals simp

@[simp] theorem endTimeout_same (s : State) :
    (endTimeout s).time = s.time ∧ (endTimeout s).pending = s.pending ∧ (endTimeout s).pc = s.pc ∧
      (endTimeout s).mu = s.mu ∧ (endTimeout s).me = s.me ∧ (endTimeout s).fdm = s.fdm ∧ (endTimeout s).hc = s.hc := by
  dsimp only [endTimeout]
  refine ⟨?_, ?_, ?_, ?_, ?_, ?_, ?_⟩ <;> repeat' split
  all_goals simp

@[simp] theorem enterAborting_same (s : State) :
    (enterAborting s).time = s.time ∧ (enterAborting s).pending = s.pending ∧ (enterAborting s).lp = s.lp ∧
      (enterAborting s).pc = s.pc ∧ (enterAborting s).mu = s.mu ∧ (enterAborting s).me = s.me ∧
      (enterAborting s).fdm = s.fdm ∧ (enterAborting s).hc = s.hc ∧ (enterAborting s).ft = s.ft := by
  dsimp only [enterAborting]
  refine ⟨?_, ?_, ?_, ?_, ?_, ?_, ?_, ?_, ?_⟩ <;> repeat' split
  all_goals simp

@[simp] theorem enterRecovering_same (i : Option (Fin 47)) (run : ShiftRun) (cmd : Vector Nat 9) (s : State) :
    (enterRecovering i run cmd s).time = s.time ∧ (enterRecovering i run cmd s).pending = s.pending ∧
      (enterRecovering i run cmd s).lp = s.lp ∧ (enterRecovering i run cmd s).pc = s.pc ∧
      (enterRecovering i run cmd s).mu = s.mu ∧ (enterRecovering i run cmd s).me = s.me ∧
      (enterRecovering i run cmd s).fdm = s.fdm ∧ (enterRecovering i run cmd s).hc = s.hc ∧
      (enterRecovering i run cmd s).ft = s.ft := by
  dsimp only [enterRecovering]
  refine ⟨?_, ?_, ?_, ?_, ?_, ?_, ?_, ?_, ?_⟩ <;> repeat' split
  all_goals simp

@[simp] theorem stepTimedOut_same (run : ShiftRun) (st : ProfileStep) (cmd : Vector Nat 9) (s : State) :
    (stepTimedOut run st cmd s).time = s.time ∧ (stepTimedOut run st cmd s).pending = s.pending ∧
      (stepTimedOut run st cmd s).pc = s.pc ∧ (stepTimedOut run st cmd s).mu = s.mu ∧
      (stepTimedOut run st cmd s).me = s.me ∧ (stepTimedOut run st cmd s).fdm = s.fdm ∧
      (stepTimedOut run st cmd s).hc = s.hc := by
  dsimp only [stepTimedOut]
  refine ⟨?_, ?_, ?_, ?_, ?_, ?_, ?_⟩ <;> repeat' split
  all_goals simp

@[simp] theorem publishStep_same (n : Nat) (st : ProfileStep) (s : State) :
    (publishStep n st s).time = s.time ∧ (publishStep n st s).pending = s.pending ∧
      (publishStep n st s).lp = s.lp ∧ (publishStep n st s).pc = s.pc ∧ (publishStep n st s).mu = s.mu ∧
      (publishStep n st s).me = s.me ∧ (publishStep n st s).fdm = s.fdm ∧ (publishStep n st s).hc = s.hc ∧
      (publishStep n st s).ft = s.ft := by
  dsimp only [publishStep]
  refine ⟨?_, ?_, ?_, ?_, ?_, ?_, ?_, ?_, ?_⟩ <;> repeat' split
  all_goals simp

@[simp] theorem recoveryFails_same (run : ShiftRun) (s : State) :
    (recoveryFails run s).time = s.time ∧ (recoveryFails run s).pending = s.pending ∧
      (recoveryFails run s).pc = s.pc ∧ (recoveryFails run s).mu = s.mu ∧ (recoveryFails run s).me = s.me ∧
      (recoveryFails run s).fdm = s.fdm ∧ (recoveryFails run s).hc = s.hc := by
  dsimp only [recoveryFails]
  refine ⟨?_, ?_, ?_, ?_, ?_, ?_, ?_⟩ <;> repeat' split
  all_goals simp

@[simp] theorem waitTimers_same (e : ShiftEntry) (s : State) :
    (waitTimers e s).time = s.time ∧ (waitTimers e s).pending = s.pending ∧ (waitTimers e s).lp = s.lp ∧
      (waitTimers e s).pc = s.pc ∧ (waitTimers e s).mu = s.mu ∧ (waitTimers e s).me = s.me ∧
      (waitTimers e s).vo = s.vo ∧ (waitTimers e s).fdm = s.fdm ∧ (waitTimers e s).hc = s.hc ∧
      (waitTimers e s).tbc = s.tbc ∧ (waitTimers e s).ft = s.ft ∧ (waitTimers e s).undelivered = s.undelivered := by
  dsimp only [waitTimers]
  refine ⟨?_, ?_, ?_, ?_, ?_, ?_, ?_, ?_, ?_, ?_, ?_, ?_⟩ <;> repeat' split
  all_goals simp

@[simp] theorem enterPending_same (e : ShiftEntry) (s : State) :
    (enterPending e s).time = s.time ∧ (enterPending e s).pending = s.pending ∧ (enterPending e s).lp = s.lp ∧
      (enterPending e s).pc = s.pc ∧ (enterPending e s).mu = s.mu ∧ (enterPending e s).me = s.me ∧
      (enterPending e s).fdm = s.fdm ∧ (enterPending e s).hc = s.hc ∧ (enterPending e s).ft = s.ft := by
  dsimp only [enterPending]
  refine ⟨?_, ?_, ?_, ?_, ?_, ?_, ?_, ?_, ?_⟩ <;> repeat' split
  all_goals simp

/-- What an operation of the SC keeps: the FDM, the HC, the ME, the MU, the PC, part time and the waiting commands. -/
def ScKeeps (s t : State) : Prop :=
  t.time = s.time ∧ t.pending = s.pending ∧ t.pc = s.pc ∧ t.mu = s.mu ∧ t.me = s.me ∧ t.fdm = s.fdm ∧ t.hc = s.hc

theorem shiftComplete_keeps {k : State → State} (hk : ∀ s, ScKeeps s (k s)) (run : ShiftRun) (s : State) :
    ScKeeps s (shiftComplete k run s) := by
  simp only [ScKeeps] at *
  dsimp only [shiftComplete]
  refine ⟨?_, ?_, ?_, ?_, ?_, ?_, ?_⟩ <;> repeat' split
  all_goals simp [hk]

theorem applyMod_keeps {k : State → State} (hk : ∀ s, ScKeeps s (k s)) (run : ShiftRun) (r : ModResult) (s : State) :
    ScKeeps s (applyMod k run r s) := by
  simp only [ScKeeps] at *
  have shiftComplete' := @shiftComplete_keeps k hk
  simp only [ScKeeps] at shiftComplete'
  dsimp only [applyMod]
  refine ⟨?_, ?_, ?_, ?_, ?_, ?_, ?_⟩ <;> repeat' split
  all_goals simp [hk, shiftComplete']

theorem modStepping_keeps {k : State → State} (hk : ∀ s, ScKeeps s (k s)) (run : ShiftRun) (s : State) :
    ScKeeps s (modStepping k run s) := by
  simp only [ScKeeps] at *
  have applyMod' := @applyMod_keeps k hk
  simp only [ScKeeps] at applyMod'
  dsimp only [modStepping]
  refine ⟨?_, ?_, ?_, ?_, ?_, ?_, ?_⟩ <;> repeat' split
  all_goals simp [hk, applyMod']

theorem recoverySucceeds_keeps {k : State → State} (hk : ∀ s, ScKeeps s (k s)) (run : ShiftRun) (s : State) :
    ScKeeps s (recoverySucceeds k run s) := by
  simp only [ScKeeps] at *
  dsimp only [recoverySucceeds]
  refine ⟨?_, ?_, ?_, ?_, ?_, ?_, ?_⟩ <;> repeat' split
  all_goals simp [hk]

theorem modRecovering_keeps {k : State → State} (hk : ∀ s, ScKeeps s (k s)) (run : ShiftRun) (s : State) :
    ScKeeps s (modRecovering k run s) := by
  simp only [ScKeeps] at *
  have recoverySucceeds' := @recoverySucceeds_keeps k hk
  simp only [ScKeeps] at recoverySucceeds'
  dsimp only [modRecovering]
  refine ⟨?_, ?_, ?_, ?_, ?_, ?_, ?_⟩ <;> repeat' split
  all_goals simp [hk, recoverySucceeds']

theorem dropEntry_keeps {k : State → State} (hk : ∀ s, ScKeeps s (k s)) (e : ShiftEntry) (why : DropReason) (s : State) :
    ScKeeps s (dropEntry k e why s) := by
  simp only [ScKeeps] at *
  dsimp only [dropEntry]
  refine ⟨?_, ?_, ?_, ?_, ?_, ?_, ?_⟩ <;> repeat' split
  all_goals simp [hk]

theorem beginShift_keeps {k : State → State} (hk : ∀ s, ScKeeps s (k s)) (d : Dir) (g : Nat) (s : State) :
    ScKeeps s (beginShift k d g s) := by
  simp only [ScKeeps] at *
  have modStepping' := @modStepping_keeps k hk
  simp only [ScKeeps] at modStepping'
  dsimp only [beginShift]
  refine ⟨?_, ?_, ?_, ?_, ?_, ?_, ?_⟩ <;> repeat' split
  all_goals simp [hk, modStepping']

theorem startResolved_keeps {k : State → State} (hk : ∀ s, ScKeeps s (k s)) (e : ShiftEntry) (t : Nat) (s : State) :
    ScKeeps s (startResolved k e t s) := by
  simp only [ScKeeps] at *
  have dropEntry' := @dropEntry_keeps k hk
  have beginShift' := @beginShift_keeps k hk
  simp only [ScKeeps] at dropEntry' beginShift'
  dsimp only [startResolved]
  refine ⟨?_, ?_, ?_, ?_, ?_, ?_, ?_⟩ <;> repeat' split
  all_goals simp [hk, dropEntry', beginShift']

theorem startEntry_keeps {k : State → State} (hk : ∀ s, ScKeeps s (k s)) (s : State) :
    ScKeeps s (startEntry k s) := by
  simp only [ScKeeps] at *
  have startResolved' := @startResolved_keeps k hk
  simp only [ScKeeps] at startResolved'
  dsimp only [startEntry]
  refine ⟨?_, ?_, ?_, ?_, ?_, ?_, ?_⟩ <;> repeat' split
  all_goals simp [hk, startResolved']

theorem pendHeads_keeps (n : Nat) (s : State) : ScKeeps s (pendHeads n s) := by
  induction n generalizing s with
  | zero => simp [pendHeads, ScKeeps]
  | succ n ih =>
    have h := @startEntry_keeps _ ih
    simp only [ScKeeps] at *
    dsimp only [pendHeads]
    refine ⟨?_, ?_, ?_, ?_, ?_, ?_, ?_⟩ <;> repeat' split
    all_goals simp [h]

theorem pendNext_keeps (s : State) : ScKeeps s (pendNext s) := pendHeads_keeps _ s

@[simp] theorem pendNext_same (s : State) :
    (pendNext s).time = s.time ∧ (pendNext s).pending = s.pending ∧ (pendNext s).pc = s.pc ∧
      (pendNext s).mu = s.mu ∧ (pendNext s).me = s.me ∧ (pendNext s).fdm = s.fdm ∧ (pendNext s).hc = s.hc := pendNext_keeps s

@[simp] theorem shiftComplete_same (run : ShiftRun) (s : State) :
    (shiftComplete pendNext run s).time = s.time ∧ (shiftComplete pendNext run s).pending = s.pending ∧
      (shiftComplete pendNext run s).pc = s.pc ∧ (shiftComplete pendNext run s).mu = s.mu ∧
      (shiftComplete pendNext run s).me = s.me ∧ (shiftComplete pendNext run s).fdm = s.fdm ∧
      (shiftComplete pendNext run s).hc = s.hc :=
  shiftComplete_keeps pendNext_keeps _ s

@[simp] theorem applyMod_same (run : ShiftRun) (r : ModResult) (s : State) :
    (applyMod pendNext run r s).time = s.time ∧ (applyMod pendNext run r s).pending = s.pending ∧
      (applyMod pendNext run r s).pc = s.pc ∧ (applyMod pendNext run r s).mu = s.mu ∧
      (applyMod pendNext run r s).me = s.me ∧ (applyMod pendNext run r s).fdm = s.fdm ∧
      (applyMod pendNext run r s).hc = s.hc :=
  applyMod_keeps pendNext_keeps _ _ s

@[simp] theorem modStepping_same (run : ShiftRun) (s : State) :
    (modStepping pendNext run s).time = s.time ∧ (modStepping pendNext run s).pending = s.pending ∧
      (modStepping pendNext run s).pc = s.pc ∧ (modStepping pendNext run s).mu = s.mu ∧
      (modStepping pendNext run s).me = s.me ∧ (modStepping pendNext run s).fdm = s.fdm ∧
      (modStepping pendNext run s).hc = s.hc :=
  modStepping_keeps pendNext_keeps _ s

@[simp] theorem recoverySucceeds_same (run : ShiftRun) (s : State) :
    (recoverySucceeds pendNext run s).time = s.time ∧ (recoverySucceeds pendNext run s).pending = s.pending ∧
      (recoverySucceeds pendNext run s).pc = s.pc ∧ (recoverySucceeds pendNext run s).mu = s.mu ∧
      (recoverySucceeds pendNext run s).me = s.me ∧ (recoverySucceeds pendNext run s).fdm = s.fdm ∧
      (recoverySucceeds pendNext run s).hc = s.hc :=
  recoverySucceeds_keeps pendNext_keeps _ s

@[simp] theorem modRecovering_same (run : ShiftRun) (s : State) :
    (modRecovering pendNext run s).time = s.time ∧ (modRecovering pendNext run s).pending = s.pending ∧
      (modRecovering pendNext run s).pc = s.pc ∧ (modRecovering pendNext run s).mu = s.mu ∧
      (modRecovering pendNext run s).me = s.me ∧ (modRecovering pendNext run s).fdm = s.fdm ∧
      (modRecovering pendNext run s).hc = s.hc :=
  modRecovering_keeps pendNext_keeps _ s

@[simp] theorem dropEntry_same (e : ShiftEntry) (why : DropReason) (s : State) :
    (dropEntry pendNext e why s).time = s.time ∧ (dropEntry pendNext e why s).pending = s.pending ∧
      (dropEntry pendNext e why s).pc = s.pc ∧ (dropEntry pendNext e why s).mu = s.mu ∧
      (dropEntry pendNext e why s).me = s.me ∧ (dropEntry pendNext e why s).fdm = s.fdm ∧
      (dropEntry pendNext e why s).hc = s.hc :=
  dropEntry_keeps pendNext_keeps _ _ s

@[simp] theorem beginShift_same (d : Dir) (g : Nat) (s : State) :
    (beginShift pendNext d g s).time = s.time ∧ (beginShift pendNext d g s).pending = s.pending ∧
      (beginShift pendNext d g s).pc = s.pc ∧ (beginShift pendNext d g s).mu = s.mu ∧
      (beginShift pendNext d g s).me = s.me ∧ (beginShift pendNext d g s).fdm = s.fdm ∧
      (beginShift pendNext d g s).hc = s.hc :=
  beginShift_keeps pendNext_keeps _ _ s

@[simp] theorem startResolved_same (e : ShiftEntry) (t : Nat) (s : State) :
    (startResolved pendNext e t s).time = s.time ∧ (startResolved pendNext e t s).pending = s.pending ∧
      (startResolved pendNext e t s).pc = s.pc ∧ (startResolved pendNext e t s).mu = s.mu ∧
      (startResolved pendNext e t s).me = s.me ∧ (startResolved pendNext e t s).fdm = s.fdm ∧
      (startResolved pendNext e t s).hc = s.hc :=
  startResolved_keeps pendNext_keeps _ _ s

@[simp] theorem startEntry_same (s : State) :
    (startEntry pendNext s).time = s.time ∧ (startEntry pendNext s).pending = s.pending ∧
      (startEntry pendNext s).pc = s.pc ∧ (startEntry pendNext s).mu = s.mu ∧ (startEntry pendNext s).me = s.me ∧
      (startEntry pendNext s).fdm = s.fdm ∧ (startEntry pendNext s).hc = s.hc :=
  startEntry_keeps pendNext_keeps s

@[simp] theorem pendingTest_same (s : State) :
    (pendingTest s).time = s.time ∧ (pendingTest s).pending = s.pending ∧ (pendingTest s).pc = s.pc ∧
      (pendingTest s).mu = s.mu ∧ (pendingTest s).me = s.me ∧ (pendingTest s).fdm = s.fdm ∧
      (pendingTest s).hc = s.hc := by
  dsimp only [pendingTest]
  refine ⟨?_, ?_, ?_, ?_, ?_, ?_, ?_⟩ <;> repeat' split
  all_goals simp

@[simp] theorem dropHead_same (why : DropReason) (s : State) :
    (dropHead why s).time = s.time ∧ (dropHead why s).pending = s.pending ∧ (dropHead why s).pc = s.pc ∧
      (dropHead why s).mu = s.mu ∧ (dropHead why s).me = s.me ∧ (dropHead why s).fdm = s.fdm ∧
      (dropHead why s).hc = s.hc := by
  dsimp only [dropHead]
  refine ⟨?_, ?_, ?_, ?_, ?_, ?_, ?_⟩ <;> repeat' split
  all_goals simp

@[simp] theorem neutralAct_same (s : State) :
    ((neutralAct s).2).time = s.time ∧ ((neutralAct s).2).pending = s.pending ∧ ((neutralAct s).2).pc = s.pc ∧
      ((neutralAct s).2).mu = s.mu ∧ ((neutralAct s).2).me = s.me ∧ ((neutralAct s).2).fdm = s.fdm ∧
      ((neutralAct s).2).hc = s.hc := by
  dsimp only [neutralAct]
  refine ⟨?_, ?_, ?_, ?_, ?_, ?_, ?_⟩ <;> repeat' split
  all_goals simp

@[simp] theorem withdraw_same (run : ShiftRun) (s : State) :
    (withdraw run s).time = s.time ∧ (withdraw run s).pending = s.pending ∧ (withdraw run s).pc = s.pc ∧
      (withdraw run s).mu = s.mu ∧ (withdraw run s).me = s.me ∧ (withdraw run s).fdm = s.fdm ∧
      (withdraw run s).hc = s.hc := by
  dsimp only [withdraw]
  refine ⟨?_, ?_, ?_, ?_, ?_, ?_, ?_⟩ <;> repeat' split
  all_goals simp

@[simp] theorem scOnSupply_same (s : State) :
    (scOnSupply s).time = s.time ∧ (scOnSupply s).pending = s.pending ∧ (scOnSupply s).pc = s.pc ∧
      (scOnSupply s).mu = s.mu ∧ (scOnSupply s).me = s.me ∧ (scOnSupply s).fdm = s.fdm ∧ (scOnSupply s).hc = s.hc := by
  dsimp only [scOnSupply]
  refine ⟨?_, ?_, ?_, ?_, ?_, ?_, ?_⟩ <;> repeat' split
  all_goals simp

@[simp] theorem scOnBrake_same (s : State) :
    (scOnBrake s).time = s.time ∧ (scOnBrake s).pending = s.pending ∧ (scOnBrake s).pc = s.pc ∧
      (scOnBrake s).mu = s.mu ∧ (scOnBrake s).me = s.me ∧ (scOnBrake s).fdm = s.fdm ∧ (scOnBrake s).hc = s.hc := by
  dsimp only [scOnBrake]
  refine ⟨?_, ?_, ?_, ?_, ?_, ?_, ?_⟩ <;> repeat' split
  all_goals simp

@[simp] theorem dropAll_same (s : State) :
    (dropAll s).time = s.time ∧ (dropAll s).pending = s.pending ∧ (dropAll s).pc = s.pc ∧
      (dropAll s).mu = s.mu ∧ (dropAll s).me = s.me ∧ (dropAll s).vo = s.vo ∧ (dropAll s).fdm = s.fdm ∧
      (dropAll s).hc = s.hc ∧ (dropAll s).tbc = s.tbc ∧ (dropAll s).ft = s.ft ∧
      (dropAll s).undelivered = s.undelivered := by
  have h : ∀ (l : List ShiftEntry) (t : State),
      l.foldl (fun s e => post .shiftDropped e.gear DropReason.link.code s) t
        = { t with lp := (l.foldl (fun s e => post .shiftDropped e.gear DropReason.link.code s) t).lp } := by
    intro l
    induction l with
    | nil => intro t; rfl
    | cons e l ih => intro t; rw [List.foldl_cons, ih]; rfl
  dsimp only [dropAll]
  rw [h]
  simp

@[simp] theorem scOnLoss_same (s : State) :
    (scOnLoss s).time = s.time ∧ (scOnLoss s).pending = s.pending ∧ (scOnLoss s).pc = s.pc ∧
      (scOnLoss s).mu = s.mu ∧ (scOnLoss s).me = s.me ∧ (scOnLoss s).fdm = s.fdm ∧ (scOnLoss s).hc = s.hc := by
  dsimp only [scOnLoss]
  refine ⟨?_, ?_, ?_, ?_, ?_, ?_, ?_⟩ <;> repeat' split
  all_goals simp

@[simp] theorem scOnForced_same (s : State) :
    (scOnForced s).time = s.time ∧ (scOnForced s).pending = s.pending ∧ (scOnForced s).pc = s.pc ∧
      (scOnForced s).mu = s.mu ∧ (scOnForced s).me = s.me ∧ (scOnForced s).fdm = s.fdm ∧ (scOnForced s).hc = s.hc := by
  dsimp only [scOnForced]
  refine ⟨?_, ?_, ?_, ?_, ?_, ?_, ?_⟩ <;> repeat' split
  all_goals simp

@[simp] theorem slipTest_same (s : State) :
    (slipTest s).time = s.time ∧ (slipTest s).pending = s.pending ∧ (slipTest s).pc = s.pc ∧
      (slipTest s).mu = s.mu ∧ (slipTest s).me = s.me ∧ (slipTest s).fdm = s.fdm ∧ (slipTest s).hc = s.hc := by
  dsimp only [slipTest]
  refine ⟨?_, ?_, ?_, ?_, ?_, ?_, ?_⟩ <;> repeat' split
  all_goals simp

@[simp] theorem scOnMotion_same (s : State) :
    (scOnMotion s).time = s.time ∧ (scOnMotion s).pending = s.pending ∧ (scOnMotion s).pc = s.pc ∧
      (scOnMotion s).mu = s.mu ∧ (scOnMotion s).me = s.me ∧ (scOnMotion s).fdm = s.fdm ∧ (scOnMotion s).hc = s.hc := by
  dsimp only [scOnMotion]
  refine ⟨?_, ?_, ?_, ?_, ?_, ?_, ?_⟩ <;> repeat' split
  all_goals simp

@[simp] theorem modUpdate_same (s : State) :
    (modUpdate s).time = s.time ∧ (modUpdate s).pending = s.pending ∧ (modUpdate s).pc = s.pc ∧
      (modUpdate s).mu = s.mu ∧ (modUpdate s).me = s.me ∧ (modUpdate s).fdm = s.fdm ∧ (modUpdate s).hc = s.hc := by
  dsimp only [modUpdate]
  refine ⟨?_, ?_, ?_, ?_, ?_, ?_, ?_⟩ <;> repeat' split
  all_goals simp

@[simp] theorem dumpEnds_same (s : State) :
    (dumpEnds s).time = s.time ∧ (dumpEnds s).pending = s.pending ∧ (dumpEnds s).pc = s.pc ∧
      (dumpEnds s).mu = s.mu ∧ (dumpEnds s).me = s.me ∧ (dumpEnds s).fdm = s.fdm ∧ (dumpEnds s).hc = s.hc := by
  dsimp only [dumpEnds]
  refine ⟨?_, ?_, ?_, ?_, ?_, ?_, ?_⟩ <;> repeat' split
  all_goals simp

end Sys2Proof.Machine
end

