-- ==== Sys2Proof/Laws/FrameLink.lean ====
section
/-! SUPPORT. What each operation of the VO, the MU, the ME and the LP leaves of the state (chapters 01 and 03 to 05). -/

namespace Sys2Proof.Machine

open Sys2Proof

/-! ### Valve Output Stage -/

@[simp] theorem tellForced_same (i : Fin 14) (s : State) :
    (tellForced i s).time = s.time ∧ (tellForced i s).pending = s.pending ∧ (tellForced i s).pc = s.pc ∧
      (tellForced i s).mu = s.mu ∧ (tellForced i s).me = s.me := by
  dsimp only [tellForced]
  refine ⟨?_, ?_, ?_, ?_, ?_⟩ <;> repeat' split
  all_goals simp

@[simp] theorem tellRestored_same (i : Fin 14) (s : State) :
    (tellRestored i s).time = s.time ∧ (tellRestored i s).pending = s.pending ∧ (tellRestored i s).pc = s.pc ∧
      (tellRestored i s).mu = s.mu ∧ (tellRestored i s).me = s.me := by
  dsimp only [tellRestored]
  refine ⟨?_, ?_, ?_, ?_, ?_⟩ <;> repeat' split
  all_goals simp

@[simp] theorem forceChannel_same (i : Fin 14) (detail : Nat) (s : State) :
    (forceChannel i detail s).time = s.time ∧ (forceChannel i detail s).pending = s.pending ∧
      (forceChannel i detail s).pc = s.pc ∧ (forceChannel i detail s).mu = s.mu ∧
      (forceChannel i detail s).me = s.me := by
  dsimp only [forceChannel]
  refine ⟨?_, ?_, ?_, ?_, ?_⟩ <;> repeat' split
  all_goals simp

@[simp] theorem releaseChannel_same (i : Fin 14) (s : State) :
    (releaseChannel i s).time = s.time ∧ (releaseChannel i s).pending = s.pending ∧
      (releaseChannel i s).pc = s.pc ∧ (releaseChannel i s).mu = s.mu ∧ (releaseChannel i s).me = s.me := by
  dsimp only [releaseChannel]
  refine ⟨?_, ?_, ?_, ?_, ?_⟩ <;> repeat' split
  all_goals simp

@[simp] theorem openTest_same (i : Fin 14) (s : State) :
    (openTest i s).time = s.time ∧ (openTest i s).pending = s.pending ∧ (openTest i s).pc = s.pc ∧
      (openTest i s).mu = s.mu ∧ (openTest i s).me = s.me := by
  dsimp only [openTest]
  refine ⟨?_, ?_, ?_, ?_, ?_⟩ <;> repeat' split
  all_goals simp

@[simp] theorem offTest_same (i : Fin 14) (off : OffState) (s : State) :
    (offTest i off s).time = s.time ∧ (offTest i off s).pending = s.pending ∧ (offTest i off s).pc = s.pc ∧
      (offTest i off s).mu = s.mu ∧ (offTest i off s).me = s.me ∧ (offTest i off s).fdm = s.fdm ∧
      (offTest i off s).hc = s.hc := by
  dsimp only [offTest, offHold]
  refine ⟨?_, ?_, ?_, ?_, ?_, ?_, ?_⟩ <;> repeat' split
  all_goals simp

@[simp] theorem diagSample_same (i : Fin 14) (current : Nat) (off : OffState) (s : State) :
    (diagSample i current off s).time = s.time ∧ (diagSample i current off s).pending = s.pending ∧
      (diagSample i current off s).pc = s.pc ∧ (diagSample i current off s).mu = s.mu ∧
      (diagSample i current off s).me = s.me := by
  dsimp only [diagSample]
  refine ⟨?_, ?_, ?_, ?_, ?_⟩ <;> repeat' split
  all_goals simp

@[simp] theorem supplyChange_same (new : Supply) (s : State) :
    (supplyChange new s).time = s.time ∧ (supplyChange new s).pending = s.pending ∧
      (supplyChange new s).pc = s.pc ∧ (supplyChange new s).mu = s.mu ∧ (supplyChange new s).me = s.me := by
  dsimp only [supplyChange]
  refine ⟨?_, ?_, ?_, ?_, ?_⟩ <;> repeat' split
  all_goals simp

@[simp] theorem voOnSnapshot_same (s : State) :
    (voOnSnapshot s).time = s.time ∧ (voOnSnapshot s).pending = s.pending ∧ (voOnSnapshot s).pc = s.pc ∧
      (voOnSnapshot s).mu = s.mu ∧ (voOnSnapshot s).me = s.me := by
  dsimp only [voOnSnapshot]
  refine ⟨?_, ?_, ?_, ?_, ?_⟩ <;> repeat' split
  all_goals simp

@[simp] theorem voOnStale_same (s : State) :
    (voOnStale s).time = s.time ∧ (voOnStale s).pending = s.pending ∧ (voOnStale s).lp = s.lp ∧
      (voOnStale s).pc = s.pc ∧ (voOnStale s).mu = s.mu ∧ (voOnStale s).me = s.me ∧ (voOnStale s).sc = s.sc ∧
      (voOnStale s).fdm = s.fdm ∧ (voOnStale s).hc = s.hc ∧ (voOnStale s).tbc = s.tbc ∧ (voOnStale s).ft = s.ft ∧
      (voOnStale s).undelivered = s.undelivered := by
  dsimp only [voOnStale]
  refine ⟨?_, ?_, ?_, ?_, ?_, ?_, ?_, ?_, ?_, ?_, ?_, ?_⟩ <;> repeat' split
  all_goals simp

/-! ### Measurement Unit -/

@[simp] theorem draftCount_same (l r : Bool) (s : State) :
    (draftCount l r s).time = s.time ∧ (draftCount l r s).pending = s.pending ∧ (draftCount l r s).pc = s.pc ∧
      (draftCount l r s).me = s.me ∧ (draftCount l r s).vo = s.vo ∧ (draftCount l r s).sc = s.sc ∧
      (draftCount l r s).fdm = s.fdm ∧ (draftCount l r s).hc = s.hc ∧ (draftCount l r s).tbc = s.tbc ∧
      (draftCount l r s).undelivered = s.undelivered := by
  dsimp only [draftCount]
  refine ⟨?_, ?_, ?_, ?_, ?_, ?_, ?_, ?_, ?_, ?_⟩ <;> repeat' split
  all_goals simp

@[simp] theorem draftResult_same (d : Int) (l r : Bool) (s : State) :
    (draftResult d l r s).time = s.time ∧ (draftResult d l r s).pending = s.pending ∧
      (draftResult d l r s).pc = s.pc ∧ (draftResult d l r s).me = s.me ∧ (draftResult d l r s).sc = s.sc ∧
      (draftResult d l r s).fdm = s.fdm ∧ (draftResult d l r s).tbc = s.tbc ∧
      (draftResult d l r s).undelivered = s.undelivered := by
  dsimp only [draftResult]
  refine ⟨?_, ?_, ?_, ?_, ?_, ?_, ?_, ?_⟩ <;> repeat' split
  all_goals simp

@[simp] theorem reversal_same (e : Nat) (l r : Int) (s : State) :
    (reversal e l r s).time = s.time ∧ (reversal e l r s).pending = s.pending ∧ (reversal e l r s).lp = s.lp ∧
      (reversal e l r s).pc = s.pc ∧ (reversal e l r s).me = s.me ∧ (reversal e l r s).vo = s.vo ∧
      (reversal e l r s).sc = s.sc ∧ (reversal e l r s).fdm = s.fdm ∧ (reversal e l r s).hc = s.hc ∧
      (reversal e l r s).tbc = s.tbc ∧ (reversal e l r s).ft = s.ft ∧
      (reversal e l r s).undelivered = s.undelivered := by
  dsimp only [reversal]
  refine ⟨?_, ?_, ?_, ?_, ?_, ?_, ?_, ?_, ?_, ?_, ?_, ?_⟩ <;> repeat' split
  all_goals simp

@[simp] theorem chopResult_same (neg : Bool) (pl pr l r : Int) (s : State) :
    (chopResult neg pl pr l r s).time = s.time ∧ (chopResult neg pl pr l r s).pending = s.pending ∧
      (chopResult neg pl pr l r s).pc = s.pc ∧ (chopResult neg pl pr l r s).me = s.me ∧
      (chopResult neg pl pr l r s).sc = s.sc ∧ (chopResult neg pl pr l r s).fdm = s.fdm ∧
      (chopResult neg pl pr l r s).tbc = s.tbc ∧ (chopResult neg pl pr l r s).undelivered = s.undelivered := by
  dsimp only [chopResult]
  refine ⟨?_, ?_, ?_, ?_, ?_, ?_, ?_, ?_⟩ <;> repeat' split
  all_goals simp

@[simp] theorem draftEnded_same (e : Nat) (l r : Int) (s : State) :
    (draftEnded e l r s).time = s.time ∧ (draftEnded e l r s).pending = s.pending ∧
      (draftEnded e l r s).pc = s.pc ∧ (draftEnded e l r s).me = s.me ∧ (draftEnded e l r s).sc = s.sc ∧
      (draftEnded e l r s).fdm = s.fdm ∧ (draftEnded e l r s).tbc = s.tbc ∧
      (draftEnded e l r s).undelivered = s.undelivered := by
  dsimp only [draftEnded]
  refine ⟨?_, ?_, ?_, ?_, ?_, ?_, ?_, ?_⟩ <;> repeat' split
  all_goals simp

@[simp] theorem fastSample_same (l r : Int) (s : State) :
    (fastSample l r s).time = s.time ∧ (fastSample l r s).pending = s.pending ∧ (fastSample l r s).pc = s.pc ∧
      (fastSample l r s).me = s.me ∧ (fastSample l r s).sc = s.sc ∧ (fastSample l r s).fdm = s.fdm ∧
      (fastSample l r s).tbc = s.tbc ∧ (fastSample l r s).ft = s.ft ∧
      (fastSample l r s).undelivered = s.undelivered := by
  dsimp only [fastSample]
  refine ⟨?_, ?_, ?_, ?_, ?_, ?_, ?_, ?_, ?_⟩ <;> repeat' split
  all_goals simp

@[simp] theorem roleReport_same (r : Fin 16) (e : RoleEntry) (old new : RoleMem) (s : State) :
    (roleReport r e old new s).time = s.time ∧ (roleReport r e old new s).pending = s.pending ∧
      (roleReport r e old new s).pc = s.pc ∧ (roleReport r e old new s).mu = s.mu ∧
      (roleReport r e old new s).me = s.me ∧ (roleReport r e old new s).vo = s.vo ∧
      (roleReport r e old new s).sc = s.sc ∧ (roleReport r e old new s).fdm = s.fdm ∧
      (roleReport r e old new s).hc = s.hc ∧ (roleReport r e old new s).tbc = s.tbc ∧
      (roleReport r e old new s).undelivered = s.undelivered := by
  dsimp only [roleReport]
  refine ⟨?_, ?_, ?_, ?_, ?_, ?_, ?_, ?_, ?_, ?_, ?_⟩ <;> repeat' split
  all_goals simp

/-- A loop whose every turn keeps a field keeps it. -/
theorem foldl_keeps {α β : Type} (p : State → β) (g : State → α → State) (h : ∀ s a, p (g s a) = p s) (l : List α)
    (s : State) : p (l.foldl g s) = p s := by
  induction l generalizing s with
  | nil => rfl
  | cons a l ih => rw [List.foldl_cons, ih, h]

@[simp] theorem publishSnapshot_same (run : ScanRun) (s : State) :
    (publishSnapshot run s).time = s.time ∧ (publishSnapshot run s).pending = s.pending ∧
      (publishSnapshot run s).pc = s.pc ∧ (publishSnapshot run s).me = s.me ∧ (publishSnapshot run s).vo = s.vo ∧
      (publishSnapshot run s).sc = s.sc ∧ (publishSnapshot run s).fdm = s.fdm ∧
      (publishSnapshot run s).hc = s.hc ∧ (publishSnapshot run s).tbc = s.tbc ∧
      (publishSnapshot run s).undelivered = s.undelivered := by
  dsimp only [publishSnapshot]
  refine ⟨foldl_keeps State.time _ ?_ _ _,
    foldl_keeps State.pending _ ?_ _ _,
    foldl_keeps State.pc _ ?_ _ _,
    foldl_keeps State.me _ ?_ _ _,
    foldl_keeps State.vo _ ?_ _ _,
    foldl_keeps State.sc _ ?_ _ _,
    foldl_keeps State.fdm _ ?_ _ _,
    foldl_keeps State.hc _ ?_ _ _,
    foldl_keeps State.tbc _ ?_ _ _,
    foldl_keeps State.undelivered _ ?_ _ _⟩ <;> intro t r <;> repeat' split
  all_goals simp

@[simp] theorem dropUnassigned_same (s : State) :
    (dropUnassigned s).time = s.time ∧ (dropUnassigned s).pending = s.pending ∧ (dropUnassigned s).pc = s.pc ∧
      (dropUnassigned s).me = s.me ∧ (dropUnassigned s).vo = s.vo ∧ (dropUnassigned s).sc = s.sc ∧
      (dropUnassigned s).fdm = s.fdm ∧ (dropUnassigned s).hc = s.hc ∧ (dropUnassigned s).tbc = s.tbc ∧
      (dropUnassigned s).undelivered = s.undelivered := by
  dsimp only [dropUnassigned]
  refine ⟨foldl_keeps State.time _ ?_ _ _,
    foldl_keeps State.pending _ ?_ _ _,
    foldl_keeps State.pc _ ?_ _ _,
    foldl_keeps State.me _ ?_ _ _,
    foldl_keeps State.vo _ ?_ _ _,
    foldl_keeps State.sc _ ?_ _ _,
    foldl_keeps State.fdm _ ?_ _ _,
    foldl_keeps State.hc _ ?_ _ _,
    foldl_keeps State.tbc _ ?_ _ _,
    foldl_keeps State.undelivered _ ?_ _ _⟩ <;> intro t r <;> repeat' split
  all_goals simp

/-! ### The scan sequencer's events -/

@[simp] theorem afterPublication_same (s : State) :
    (afterPublication s).time = s.time ∧ (afterPublication s).pending = s.pending ∧
      (afterPublication s).pc = s.pc ∧ (afterPublication s).me = s.me := by
  dsimp only [afterPublication]
  refine ⟨?_, ?_, ?_, ?_⟩ <;> repeat' split
  all_goals simp

@[simp] theorem completeRun_same (run : ScanRun) (s : State) :
    (completeRun run s).time = s.time ∧ (completeRun run s).pending = s.pending ∧
      (completeRun run s).pc = s.pc ∧ (completeRun run s).me = s.me := by
  dsimp only [completeRun]
  refine ⟨?_, ?_, ?_, ?_⟩ <;> repeat' split
  all_goals simp

@[simp] theorem startRun_same (s : State) :
    (startRun s).time = s.time ∧ (startRun s).pending = s.pending ∧ (startRun s).pc = s.pc ∧
      (startRun s).me = s.me := by
  dsimp only [startRun]
  refine ⟨?_, ?_, ?_, ?_⟩ <;> repeat' split
  all_goals simp

@[simp] theorem nextRun_same (s : State) :
    (nextRun s).time = s.time ∧ (nextRun s).pending = s.pending ∧ (nextRun s).pc = s.pc ∧ (nextRun s).me = s.me := by
  dsimp only [nextRun]
  refine ⟨?_, ?_, ?_, ?_⟩ <;> repeat' split
  all_goals simp

@[simp] theorem delayEnds_same (run : ScanRun) (s : State) :
    (delayEnds run s).time = s.time ∧ (delayEnds run s).pending = s.pending ∧ (delayEnds run s).lp = s.lp ∧
      (delayEnds run s).pc = s.pc ∧ (delayEnds run s).me = s.me ∧ (delayEnds run s).vo = s.vo ∧
      (delayEnds run s).sc = s.sc ∧ (delayEnds run s).fdm = s.fdm ∧ (delayEnds run s).hc = s.hc ∧
      (delayEnds run s).tbc = s.tbc ∧ (delayEnds run s).ft = s.ft ∧ (delayEnds run s).undelivered = s.undelivered := by
  dsimp only [delayEnds]
  refine ⟨?_, ?_, ?_, ?_, ?_, ?_, ?_, ?_, ?_, ?_, ?_, ?_⟩ <;> repeat' split
  all_goals simp

@[simp] theorem stepConverted_same (run : ScanRun) (raw : Nat) (s : State) :
    (stepConverted run raw s).time = s.time ∧ (stepConverted run raw s).pending = s.pending ∧
      (stepConverted run raw s).pc = s.pc ∧ (stepConverted run raw s).me = s.me := by
  dsimp only [stepConverted]
  refine ⟨?_, ?_, ?_, ?_⟩ <;> repeat' split
  all_goals simp

@[simp] theorem scanStale_same (s : State) :
    (scanStale s).time = s.time ∧ (scanStale s).pending = s.pending ∧ (scanStale s).pc = s.pc ∧
      (scanStale s).me = s.me := by
  dsimp only [scanStale]
  refine ⟨?_, ?_, ?_, ?_⟩ <;> repeat' split
  all_goals simp

@[simp] theorem trackStart_same (s : State) :
    (trackStart s).time = s.time ∧ (trackStart s).pending = s.pending ∧ (trackStart s).pc = s.pc ∧
      (trackStart s).me = s.me := by
  dsimp only [trackStart]
  refine ⟨?_, ?_, ?_, ?_⟩ <;> repeat' split
  all_goals simp

/-! ### Motion Estimator -/

@[simp] theorem plausibleReport_same (i : Fin 47) (d : Nat) (p : Plausible) (s : State) :
    (plausibleReport i d p s).time = s.time ∧ (plausibleReport i d p s).pending = s.pending ∧
      (plausibleReport i d p s).pc = s.pc ∧ (plausibleReport i d p s).mu = s.mu ∧
      (plausibleReport i d p s).me = s.me ∧ (plausibleReport i d p s).fdm = s.fdm ∧
      (plausibleReport i d p s).hc = s.hc := by
  dsimp only [plausibleReport]
  refine ⟨?_, ?_, ?_, ?_, ?_, ?_, ?_⟩ <;> repeat' split
  all_goals simp

@[simp] theorem formMotion_same (v : Speeds) (s : State) :
    (formMotion v s).time = s.time ∧ (formMotion v s).pending = s.pending ∧ (formMotion v s).lp = s.lp ∧
      (formMotion v s).pc = s.pc ∧ (formMotion v s).mu = s.mu ∧ (formMotion v s).vo = s.vo ∧
      (formMotion v s).sc = s.sc ∧ (formMotion v s).fdm = s.fdm ∧ (formMotion v s).hc = s.hc ∧
      (formMotion v s).tbc = s.tbc ∧ (formMotion v s).ft = s.ft ∧ (formMotion v s).undelivered = s.undelivered := by
  dsimp only [formMotion]
  refine ⟨?_, ?_, ?_, ?_, ?_, ?_, ?_, ?_, ?_, ?_, ?_, ?_⟩ <;> repeat' split
  all_goals simp

@[simp] theorem plausibility_same (v : Speeds) (s : State) :
    (plausibility v s).time = s.time ∧ (plausibility v s).pending = s.pending ∧ (plausibility v s).pc = s.pc ∧
      (plausibility v s).mu = s.mu ∧ (plausibility v s).fdm = s.fdm ∧ (plausibility v s).hc = s.hc := by
  dsimp only [plausibility]
  refine ⟨?_, ?_, ?_, ?_, ?_, ?_⟩ <;> repeat' split
  all_goals simp

@[simp] theorem motionUpdate_same (s : State) :
    (motionUpdate s).time = s.time ∧ (motionUpdate s).pending = s.pending ∧ (motionUpdate s).pc = s.pc ∧
      (motionUpdate s).mu = s.mu := by
  dsimp only [motionUpdate]
  refine ⟨?_, ?_, ?_, ?_⟩ <;> repeat' split
  all_goals simp

@[simp] theorem takeEngine_same (speed torque : Nat) (oil : Int) (s : State) :
    (takeEngine speed torque oil s).time = s.time ∧ (takeEngine speed torque oil s).pending = s.pending ∧
      (takeEngine speed torque oil s).pc = s.pc ∧ (takeEngine speed torque oil s).mu = s.mu ∧
      (takeEngine speed torque oil s).vo = s.vo ∧ (takeEngine speed torque oil s).sc = s.sc ∧
      (takeEngine speed torque oil s).fdm = s.fdm ∧ (takeEngine speed torque oil s).hc = s.hc ∧
      (takeEngine speed torque oil s).tbc = s.tbc ∧ (takeEngine speed torque oil s).undelivered = s.undelivered := by
  dsimp only [takeEngine]
  refine ⟨?_, ?_, ?_, ?_, ?_, ?_, ?_, ?_, ?_, ?_⟩ <;> repeat' split
  all_goals simp

@[simp] theorem engineExpires_same (s : State) :
    (engineExpires s).time = s.time ∧ (engineExpires s).pending = s.pending ∧ (engineExpires s).pc = s.pc ∧
      (engineExpires s).mu = s.mu ∧ (engineExpires s).vo = s.vo ∧ (engineExpires s).sc = s.sc ∧
      (engineExpires s).fdm = s.fdm ∧ (engineExpires s).hc = s.hc ∧ (engineExpires s).tbc = s.tbc ∧
      (engineExpires s).undelivered = s.undelivered := by
  dsimp only [engineExpires]
  refine ⟨?_, ?_, ?_, ?_, ?_, ?_, ?_, ?_, ?_, ?_⟩ <;> repeat' split
  all_goals simp

/-! ### Link Port -/

@[simp] theorem deliverBrake_same (n : Nat) (s : State) :
    (deliverBrake n s).time = s.time ∧ (deliverBrake n s).pending = s.pending ∧ (deliverBrake n s).pc = s.pc ∧
      (deliverBrake n s).mu = s.mu ∧ (deliverBrake n s).me = s.me := by
  induction n generalizing s with
  | zero => simp [deliverBrake]
  | succ n ih =>
    dsimp only [deliverBrake]
    split
    · simp
    · simp [ih]

@[simp] theorem settle_same (s : State) :
    (settle s).time = s.time ∧ (settle s).pending = s.pending ∧ (settle s).pc = s.pc ∧ (settle s).mu = s.mu ∧
      (settle s).me = s.me := by
  dsimp only [settle]
  refine ⟨?_, ?_, ?_, ?_, ?_⟩ <;> repeat' split
  all_goals simp

@[simp] theorem deliveryTest_same (s : State) :
    (deliveryTest s).time = s.time ∧ (deliveryTest s).pending = s.pending ∧ (deliveryTest s).pc = s.pc ∧
      (deliveryTest s).mu = s.mu ∧ (deliveryTest s).me = s.me ∧ (deliveryTest s).vo = s.vo ∧
      (deliveryTest s).sc = s.sc ∧ (deliveryTest s).fdm = s.fdm ∧ (deliveryTest s).hc = s.hc ∧
      (deliveryTest s).tbc = s.tbc ∧ (deliveryTest s).ft = s.ft ∧ (deliveryTest s).undelivered = s.undelivered := by
  dsimp only [deliveryTest]
  refine ⟨?_, ?_, ?_, ?_, ?_, ?_, ?_, ?_, ?_, ?_, ?_, ?_⟩ <;> repeat' split
  all_goals simp

@[simp] theorem restoreLink_same (s : State) :
    (restoreLink s).time = s.time ∧ (restoreLink s).pending = s.pending ∧ (restoreLink s).pc = s.pc ∧
      (restoreLink s).mu = s.mu ∧ (restoreLink s).me = s.me ∧ (restoreLink s).vo = s.vo ∧
      (restoreLink s).sc = s.sc ∧ (restoreLink s).fdm = s.fdm ∧ (restoreLink s).hc = s.hc ∧
      (restoreLink s).tbc = s.tbc ∧ (restoreLink s).undelivered = s.undelivered := by
  dsimp only [restoreLink]
  refine ⟨?_, ?_, ?_, ?_, ?_, ?_, ?_, ?_, ?_, ?_, ?_⟩ <;> repeat' split
  all_goals simp

@[simp] theorem takeFrame_same (s : State) :
    (takeFrame s).time = s.time ∧ (takeFrame s).pending = s.pending ∧ (takeFrame s).pc = s.pc ∧
      (takeFrame s).mu = s.mu ∧ (takeFrame s).me = s.me ∧ (takeFrame s).vo = s.vo ∧ (takeFrame s).sc = s.sc ∧
      (takeFrame s).fdm = s.fdm ∧ (takeFrame s).hc = s.hc ∧ (takeFrame s).tbc = s.tbc ∧
      (takeFrame s).undelivered = s.undelivered := by
  dsimp only [takeFrame]
  refine ⟨?_, ?_, ?_, ?_, ?_, ?_, ?_, ?_, ?_, ?_, ?_⟩ <;> repeat' split
  all_goals simp

@[simp] theorem linkLoss_same (s : State) :
    (linkLoss s).time = s.time ∧ (linkLoss s).pending = s.pending ∧ (linkLoss s).pc = s.pc ∧
      (linkLoss s).mu = s.mu ∧ (linkLoss s).me = s.me := by
  dsimp only [linkLoss]
  refine ⟨?_, ?_, ?_, ?_, ?_⟩ <;> repeat' split
  all_goals simp

@[simp] theorem resumeLink_same (s : State) :
    (resumeLink s).time = s.time ∧ (resumeLink s).pending = s.pending ∧ (resumeLink s).pc = s.pc ∧
      (resumeLink s).mu = s.mu ∧ (resumeLink s).me = s.me := by
  dsimp only [resumeLink]
  refine ⟨?_, ?_, ?_, ?_, ?_⟩ <;> repeat' split
  all_goals simp

end Sys2Proof.Machine
end

