-- ==== Sys2Proof/Laws/Link.lean ====
section
/-! SUPPORT. What a frame, a request and the end of an event can do, said once (R3, R7, R10, R17, R19, R22). -/

namespace Sys2Proof.Machine

open Sys2Proof

/-! ### The end of an event -/

/-- The end of an event with nothing undelivered changes nothing. -/
theorem settle_of_zero {s : State} (h : s.undelivered = 0) : settle s = s := by
  simp [settle, deliverBrake, Config.deliveryFuel, h]

theorem deliverBrake_undelivered (n : Nat) (s : State) : (deliverBrake n s).undelivered = 0 := by
  induction n generalizing s with
  | zero => rfl
  | succ n ih =>
    unfold deliverBrake
    split
    · assumption
    · exact ih _

/-- The end of an event leaves nothing undelivered. -/
@[simp] theorem settle_undelivered (s : State) : (settle s).undelivered = 0 := deliverBrake_undelivered _ s

/-- An event whose condition holds and which publishes no brake record answers the state its act gives. -/
theorem event_acts {cond : Bool} {act : State → State} {s : State} (hc : cond = true)
    (h : (act s).undelivered = 0) : event cond act s = .next (act s) := by
  simp [event, hc, settle_of_zero h]

/-- An event whose condition does not hold changes nothing. -/
theorem event_idle {cond : Bool} {act : State → State} {s : State} (hc : cond = false)
    (h : s.undelivered = 0) : event cond act s = .next s := by
  simp [event, hc, settle_of_zero h]

/-! ### Frames -/

theorem SameLp.refl (a : LinkPort) : SameLp a a := ⟨rfl, id⟩

theorem SameLp.trans {a b c : LinkPort} (h : SameLp a b) (h' : SameLp b c) : SameLp a c := by
  obtain ⟨h1, h2⟩ := h
  obtain ⟨h3, h4⟩ := h'
  refine ⟨?_, fun x => h2 (h4 x)⟩
  rw [h3, h1]

/-- What a frame of 256 bits and its reply make of the LP: the fields of `SameLp`, with the notices-lost flag as the delivery
test leaves it (R19). -/
def TakenLp (a b : LinkPort) : Prop := SameLp a b ∧ b.lost = lostAfter a

/-- The delivery test of R19 writes the notices-lost flag and nothing else. -/
theorem deliveryTest_eq (s : State) : deliveryTest s = { s with lp := { s.lp with lost := lostAfter s.lp } } := by
  have e : lostAfter s.lp = (s.lp.lost && !(slotCarriesLost s.lp.slot && !s.lp.lostMarker)) := rfl
  unfold deliveryTest
  rw [e]
  split
  · simp [*]
  · simp only [Bool.not_eq_true] at *
    simp [*]

/-- A frame that restores nothing changes only what a frame writes in the LP, and makes the delivery test (R3, R7 step 1, R19,
R22). -/
theorem takeFrame_clockFrame {s : State} (h : s.inRun = false ∨ s.lp.link ≠ .lost) (bits : List Bool) :
    ∃ lp, takeFrame (clockFrame bits s) = { s with lp := lp } ∧ TakenLp s.lp lp := by
  have hr : (clockFrame bits s).inRun = s.inRun := rfl
  have hl : (clockFrame bits s).lp.link = s.lp.link := rfl
  have hm : lostAfter s.lp = true → s.lp.lost = true := by unfold lostAfter; simp +contextual
  unfold takeFrame
  rw [hr, hl]
  cases hb : s.inRun with
  | false => exact ⟨_, by simp only [Bool.false_eq_true, if_false, deliveryTest_eq]; rfl, ⟨rfl, hm⟩, rfl⟩
  | true =>
    have : s.lp.link ≠ .lost := by simpa [hb] using h
    exact ⟨_, by simp only [if_true, this, if_false, deliveryTest_eq]; rfl, ⟨rfl, hm⟩, rfl⟩

/-- A request whose length byte fits is its handler's answer, on the state but for the frame's own writes in the LP,
with the reply in the slot (R7). -/
theorem takeRequest_answers {s : State} (h : Ready s) {kind : Byte} {size : Nat} {f : Request}
    (hl : f.len.toNat = size) (handler : Request → State → Answer) :
    ∃ lp, TakenLp s.lp lp ∧
      takeRequest kind size handler f s =
        reply kind f.tag (handler f { s with lp := lp }).status (handler f { s with lp := lp }).body
          (settle (handler f { s with lp := lp }).after) := by
  obtain ⟨lp, e, m⟩ := takeFrame_clockFrame h.2 (bytesBits (frameBytes kind f (crc16 (frameHead kind f))))
  refine ⟨lp, m, ?_⟩
  unfold takeRequest
  simp only [e, hl, if_true]

/-- A reply formed on a state that differs from `u` only in what a frame writes answers the request over `u`. -/
theorem reply_replied {u t : State} (ht : t = { u with lp := t.lp }) (hm : TakenLp u.lp t.lp) (kind : Byte)
    (f : Request) (st : Status) (body : List Byte) :
    Replied kind f st body u (reply kind f.tag st body t)
      ∧ (reply kind f.tag st body t).lp.lost = lostAfter u.lp := by
  refine ⟨⟨by rw [ht]; rfl, hm.1.trans ⟨rfl, id⟩, rfl⟩, hm.2⟩

/-- The form in which a request that publishes nothing is stated: its handler answers `st` and `body` and leaves `u`,
whatever a frame has written in the LP. -/
theorem takeRequest_replied {s u : State} (h : Ready s) (hu : u.undelivered = 0) {kind : Byte} {size : Nat}
    {f : Request} (hl : f.len.toNat = size) {handler : Request → State → Answer} {st : Status} {body : List Byte}
    (hh : ∀ lp, TakenLp s.lp lp → ∃ lp', TakenLp u.lp lp' ∧
      handler f { s with lp := lp } = ⟨st, body, { u with lp := lp' }⟩) :
    Replied kind f st body u (takeRequest kind size handler f s)
      ∧ (takeRequest kind size handler f s).lp.lost = lostAfter u.lp := by
  obtain ⟨lp, m, e⟩ := takeRequest_answers h hl handler (kind := kind)
  obtain ⟨lp', m', e'⟩ := hh lp m
  have hz : ({ u with lp := lp' } : State).undelivered = 0 := hu
  rw [e, e', settle_of_zero hz]
  exact reply_replied rfl m' kind f st body

/-- The request that writes nothing in the LP: its handler answers `st` and `body` and leaves `u`, whatever stands in
the LP. -/
theorem takeRequest_kept {s u : State} (h : Ready s) (hu : u.undelivered = 0) (hlp : u.lp = s.lp) {kind : Byte}
    {size : Nat} {f : Request} (hl : f.len.toNat = size) {handler : Request → State → Answer} {st : Status}
    {body : List Byte} (hh : ∀ lp, TakenLp s.lp lp → handler f { s with lp := lp } = ⟨st, body, { u with lp := lp }⟩) :
    Replied kind f st body u (takeRequest kind size handler f s)
      ∧ (takeRequest kind size handler f s).lp.lost = lostAfter u.lp :=
  takeRequest_replied h hu hl fun lp m => ⟨lp, hlp ▸ m, hh lp m⟩

/-- The fields of the LP that a frame keeps. -/
theorem SameLp.fields {a b : LinkPort} (h : SameLp a b) :
    b.notices = a.notices ∧ b.threshold = a.threshold ∧ b.tLink = a.tLink ∧ b.policy = a.policy ∧ b.link = a.link
      ∧ b.lostMarker = a.lostMarker ∧ b.attn = a.attn ∧ b.lossTime = a.lossTime := by
  obtain ⟨h, _⟩ := h
  rw [h]; simp

/-- What a frame makes of the LP, field by field. -/
theorem SameLp.form {a b : LinkPort} (h : SameLp a b) :
    ∃ frame bitCount dataOut lost supervision slot, b = { a with
      frame := frame, bitCount := bitCount, dataOut := dataOut, lost := lost, supervision := supervision
      slot := slot } ∧ (lost = true → a.lost = true) := by
  obtain ⟨h, h'⟩ := h
  exact ⟨_, _, _, _, _, _, h, h'⟩

/-- ATTN by the levels in the queue (R20). -/
theorem attnOf_eq (n : Nat) (q : List Notice) : attnOf n q = decide (∃ x ∈ q, x.level = 3 ∨ n ≤ x.level) := by
  rw [Bool.eq_iff_iff]
  simp only [attnOf, List.any_eq_true, attnNotice, decide_eq_true_iff]

/-! ### The notice queue -/

/-- The lowest level present is 3 or the level of a notice of the queue (R17). -/
theorem lowestLevel_mem (q : List Notice) : lowestLevel q = 3 ∨ ∃ m ∈ q, lowestLevel q = m.level := by
  unfold lowestLevel
  generalize 3 = b
  induction q generalizing b with
  | nil => exact .inl rfl
  | cons a l ih =>
    rw [List.foldl_cons]
    rcases ih (min b a.level) with h | ⟨m, hm, h⟩
    · rw [h]
      rcases Nat.le_total b a.level with hb | hb
      · exact .inl (Nat.min_eq_left hb)
      · exact .inr ⟨a, by simp, Nat.min_eq_right hb⟩
    · exact .inr ⟨m, by simp [hm], h⟩

/-- The queue keeps its capacity (R17). -/
theorem offer_length {n : Notice} {q : List Notice} (hn : n.level ≤ 3) (h : q.length ≤ Config.noticeCap) :
    (offer n q).1.length ≤ Config.noticeCap := by
  unfold offer
  split
  · simp; omega
  · split
    · rename_i hlow
      obtain h3 | ⟨m, hm, h3⟩ := lowestLevel_mem q
      · omega
      · have hp := List.length_eraseP_of_mem (p := fun m => decide (m.level = lowestLevel q)) hm (by simp [h3])
        have := List.length_pos_of_mem hm
        simp only [List.length_append, List.length_singleton, hp]
        omega
    · exact h

/-- Offering a notice leaves ATTN as the queue and the threshold give it (R20). -/
theorem offerNotice_attn (n : Notice) (lp : LinkPort) :
    (offerNotice n lp).attn = attnOf (offerNotice n lp).threshold (offerNotice n lp).notices := rfl

/-- Every notice kind's level is at most 3 (R15). -/
theorem kindLevel_le (k : NoticeKind) : kindLevel k ≤ 3 := by cases k <;> decide

/-- Every fault's level is at most 3 (R200). -/
theorem faultLevel_le (i : Fin 47) : faultLevel i ≤ 3 := by
  unfold faultLevel
  split
  · exact Nat.le_refl 3
  · split <;> decide

/-! ### Reports of the fault table -/

/-- A report leaves every other entry as it was (R197, R198). -/
theorem ftStart_other {i j : Fin 47} (h : i ≠ j) (d : Nat) (s : State) : (ftStart i d s).ft[j] = s.ft[j] := by
  have hv : i.val ≠ j.val := fun e => h (Fin.ext e)
  dsimp only [ftStart]
  split <;> simp [Vector.getElem_set, hv]

theorem ftEnd_other {i j : Fin 47} (h : i ≠ j) (s : State) : (ftEnd i s).ft[j] = s.ft[j] := by
  have hv : i.val ≠ j.val := fun e => h (Fin.ext e)
  dsimp only [ftEnd]
  split <;> simp [hv]

/-- After a start report the entry is ACTIVE (R197). -/
theorem ftStart_active (i : Fin 47) (d : Nat) (s : State) : ((ftStart i d s).ft[i]).state = .active := by
  dsimp only [ftStart]
  split
  · assumption
  all_goals simp

/-- After an end report the entry is not ACTIVE (R198). -/
theorem ftEnd_inactive (i : Fin 47) (s : State) : ((ftEnd i s).ft[i]).state ≠ .active := by
  dsimp only [ftEnd]
  split
  · simp
  all_goals simp_all

end Sys2Proof.Machine
end

