-- ==== Sys2Proof/Laws/Tame.lean ====
section
/-! SUPPORT. What the SC's operations, the FT's reports and the delivery of brake record publications can do, said once: `Tame`
names the few writes that they are made of, and every property that those keep is kept by each of them, `settle` last. -/

namespace Sys2Proof.Machine

open Sys2Proof

/-- A write of channel `i` leaves every other channel as it was. -/
theorem writeChan_other {i j : Fin 14} (h : i ≠ j) (cmd : Nat) (s : State) :
    (writeChan i cmd s).vo.chan[j] = s.vo.chan[j] := by
  have h' : i.val ≠ j.val := fun e => h (Fin.ext e)
  simp [writeChan, formDrive, modChan, h']

/-- A write of a channel stores the clamped command (R79, R82). -/
theorem writeChan_command (i : Fin 14) (cmd : Nat) (s : State) :
    ((writeChan i cmd s).vo.chan[i]).command = min cmd (chanMax i) := by
  simp [writeChan, formDrive, modChan]

/-- A property of states that everything which the SC, the FDM, the FT for the entries `F` and the delivery of brake record
publications do with a state keeps, because what they write keeps it: notices, their own records, the clutch channels and
FRONT_RELEASE, these entries, and what the TBC does as it takes a publication of the driveline record (R110, R134, R141). -/
structure Tame (F : Fin 47 → Prop) (P : State → Prop) : Prop where
  drive : ∀ s, P s → P (tbcOnDriveline s)
  lp : ∀ (s : State) (x : LinkPort), P s → P { s with lp := x }
  sc : ∀ (s : State) (x : ShiftCtl), P s → P { s with sc := x }
  fdm : ∀ (s : State) (x : FrontDrive), P s → P { s with fdm := x }
  undelivered : ∀ (s : State) (x : Nat), P s → P { s with undelivered := x }
  chan : ∀ (s : State) (i : Fin 14) (cmd : Nat), i.val < 9 ∨ i = chFront → P s → P (writeChan i cmd s)
  fault : ∀ (s : State) (i : Fin 47) (e : FaultEntry), F i → P s → P (modFault i e s)

namespace Tame

variable {F : Fin 47 → Prop} {P : State → Prop} (h : Tame F P)
include h

theorem postAt {s : State} (hs : P s) (k : NoticeKind) (lvl v1 v2 : Nat) : P (postAt k lvl v1 v2 s) :=
  h.lp _ _ hs

theorem post {s : State} (hs : P s) (k : NoticeKind) (v1 v2 : Nat) : P (post k v1 v2 s) := h.lp _ _ hs

theorem writeClutches {s : State} (hs : P s) (v : Vector Nat 9) : P (writeClutches v s) := by
  unfold Machine.writeClutches
  generalize List.finRange 9 = l
  induction l generalizing s with
  | nil => exact hs
  | cons c l ih => exact ih (h.chan _ (clutchChan c) _ (.inl c.isLt) hs)

theorem scPublish {s : State} (hs : P s) (d : Driveline) : P (scPublish d s) := by
  unfold Machine.scPublish
  split
  · exact hs
  · exact h.drive _ (h.sc _ _ hs)

theorem evalAbove {s : State} (hs : P s) : P (evalAbove s) := h.scPublish hs _

theorem postAbove {s : State} (hs : P s) (b : Bool) : P (postAbove b s) := by
  unfold Machine.postAbove
  split
  · exact h.post hs _ _ _
  · exact hs

theorem scWindow {s : State} (hs : P s) (always : Bool) : P (scWindow always s) := by
  unfold Machine.scWindow
  refine h.postAbove (h.evalAbove ?_) _
  dsimp only
  split
  · exact h.post (h.sc _ _ hs) _ _ _
  · exact h.sc _ _ hs

theorem ftTell {s : State} (hs : P s) (i : Fin 47) : P (ftTell i s) := by
  unfold Machine.ftTell
  split
  · exact h.scWindow hs _
  · exact hs

theorem ftStart {s : State} (hs : P s) {i : Fin 47} (hi : F i) (d : Nat) : P (ftStart i d s) := by
  unfold Machine.ftStart
  dsimp only
  split
  · exact hs
  all_goals exact h.ftTell (h.postAt (h.fault _ _ _ hi hs) _ _ _ _) _

theorem ftEnd {s : State} (hs : P s) {i : Fin 47} (hi : F i) : P (ftEnd i s) := by
  unfold Machine.ftEnd
  dsimp only
  split
  · exact h.ftTell (h.post (h.fault _ _ _ hi hs) _ _ _) _
  all_goals exact hs

theorem endTimeout {s : State} (hs : P s) (hi : ∀ i, s.sc.timeoutFault = some i → F i) : P (endTimeout s) := by
  unfold Machine.endTimeout ftEndOpt
  split
  · exact h.ftEnd (h.sc _ _ hs) (hi _ ‹_›)
  · exact h.sc _ _ hs

theorem enterIdle {s : State} (hs : P s) : P (enterIdle s) := by
  unfold Machine.enterIdle
  exact h.scPublish (h.sc _ _ hs) _

theorem enterAborting {s : State} (hs : P s) : P (enterAborting s) := by
  unfold Machine.enterAborting
  exact h.evalAbove (h.scPublish (h.sc _ _ (h.writeClutches hs _)) _)

theorem enterRecovering {s : State} (hs : P s) (i : Option (Fin 47)) (run : ShiftRun) (cmd : Vector Nat 9) :
    P (enterRecovering i run cmd s) := by
  unfold Machine.enterRecovering
  exact h.scPublish (h.writeClutches (h.sc _ _ hs) _) _

theorem stepTimedOut (hF : F fFillTimeout ∧ F fSyncTimeout) {s : State} (hs : P s) (run : ShiftRun) (st : ProfileStep) (cmd : Vector Nat 9) :
    P (stepTimedOut run st cmd s) := by
  unfold Machine.stepTimedOut
  extract_lets i detail u v
  have hu : P u := h.ftStart hs (by
    show F (if _ then _ else _)
    split
    · exact hF.1
    · exact hF.2) _
  split
  · exact h.sc _ _ (h.enterAborting (h.post (h.sc _ _ hu) _ _ _))
  · exact h.enterRecovering hu _ _ _

theorem shiftComplete {k : State → State} (hk : ∀ s, P s → P (k s)) {s : State} (hs : P s) (run : ShiftRun) :
    P (shiftComplete k run s) := by
  unfold Machine.shiftComplete
  exact hk _ (h.postAbove (h.post (h.evalAbove (h.scPublish (h.sc _ _ (h.writeClutches hs _)) _)) _ _ _) _)

theorem modStepping (hF : F fFillTimeout ∧ F fSyncTimeout) {k : State → State} (hk : ∀ s, P s → P (k s)) {s : State} (hs : P s) (run : ShiftRun) :
    P (modStepping k run s) := by
  unfold Machine.modStepping applyMod
  split
  · exact h.scPublish (h.writeClutches (h.sc _ _ hs) _) _
  · exact h.shiftComplete hk hs _
  · exact h.stepTimedOut hF hs _ _ _

theorem dropEntry {k : State → State} (hk : ∀ s, P s → P (k s)) {s : State} (hs : P s) (e : ShiftEntry)
    (why : DropReason) : P (dropEntry k e why s) := by
  unfold Machine.dropEntry
  exact hk _ (h.enterIdle (h.post hs _ _ _))

theorem beginShift (hF : F fFillTimeout ∧ F fSyncTimeout) {k : State → State} (hk : ∀ s, P s → P (k s)) {s : State} (hs : P s) (d : Dir) (g : Nat) :
    P (beginShift k d g s) := by
  unfold Machine.beginShift
  exact h.modStepping hF hk (h.scPublish (h.sc _ _ hs) _) _

theorem startResolved (hF : F fFillTimeout ∧ F fSyncTimeout) {k : State → State} (hk : ∀ s, P s → P (k s)) {s : State} (hs : P s) (e : ShiftEntry) (t : Nat) :
    P (startResolved k e t s) := by
  unfold Machine.startResolved
  dsimp only
  split
  · exact hk _ (h.enterIdle (h.post hs _ _ _))
  split
  · exact h.dropEntry hk hs _ _
  split
  · split
    · exact h.dropEntry hk hs _ _
    · refine h.beginShift hF hk ?_ _ _
      split
      · exact hs
      · exact h.post hs _ _ _
  · exact h.beginShift hF hk hs _ _

theorem startEntry (hF : F fFillTimeout ∧ F fSyncTimeout) {k : State → State} (hk : ∀ s, P s → P (k s)) {s : State} (hs : P s) : P (startEntry k s) := by
  have hp : P (popHead s) := h.sc _ _ hs
  unfold Machine.startEntry
  split
  · exact hs
  · dsimp only
    split
    · exact hk _ (h.enterIdle (h.post hp _ _ _))
    · refine h.startResolved hF hk ?_ _ _
      split
      · exact hp
      · exact h.post hp _ _ _

theorem waitTimers {s : State} (hs : P s) (e : ShiftEntry) : P (waitTimers e s) := h.sc _ _ hs

theorem enterPending {s : State} (hs : P s) (e : ShiftEntry) : P (enterPending e s) := by
  unfold Machine.enterPending
  exact h.waitTimers (h.scPublish (h.sc _ _ hs) _) _

theorem pendHeads (hF : F fFillTimeout ∧ F fSyncTimeout) {s : State} (hs : P s) (n : Nat) : P (pendHeads n s) := by
  induction n generalizing s with
  | zero => exact hs
  | succ n ih =>
    unfold Machine.pendHeads
    split
    · exact hs
    · dsimp only
      split
      · exact h.startEntry hF (fun s hs => ih hs) (h.enterPending hs _)
      · exact h.enterPending hs _

theorem pendingTest (hF : F fFillTimeout ∧ F fSyncTimeout) {s : State} (hs : P s) : P (pendingTest s) := by
  unfold Machine.pendingTest
  split
  · exact hs
  · dsimp only
    split
    · exact h.startEntry hF (fun s hs => h.pendHeads hF hs _) (h.waitTimers hs _)
    · exact h.waitTimers hs _

theorem scOnBrake (hF : F fFillTimeout ∧ F fSyncTimeout) {s : State} (hs : P s) : P (scOnBrake s) := by
  unfold Machine.scOnBrake
  dsimp only
  split
  · exact h.pendingTest hF (h.scWindow hs _)
  · exact h.scWindow hs _

theorem fdmChange {s : State} (hs : P s) (new : FrontState) : P (fdmChange new s) := by
  unfold Machine.fdmChange
  exact h.post (h.chan _ chFront _ (.inr rfl) (h.fdm _ _ hs)) _ _ _

theorem fdmGuarded {s : State} (hs : P s) (dwell : Bool) (new : FrontState) : P (fdmGuarded dwell new s) := by
  unfold Machine.fdmGuarded
  split
  · exact h.fdmChange hs _
  all_goals exact h.fdm _ _ hs

theorem fdmAct {s : State} (hs : P s) : P (fdmAct s) := by
  unfold Machine.fdmAct
  dsimp only
  repeat' split
  all_goals first
    | exact hs
    | exact h.fdmChange hs _
    | exact h.fdmGuarded hs _ _

theorem settle (hF : F fFillTimeout ∧ F fSyncTimeout) {s : State} (hs : P s) : P (settle s) := by
  unfold Machine.settle
  generalize Config.deliveryFuel = n
  induction n generalizing s with
  | zero => exact h.undelivered _ _ hs
  | succ n ih =>
    unfold deliverBrake
    split
    · exact hs
    · refine ih ?_
      unfold fdmEvaluate
      exact h.fdmAct (h.fdm _ _ (h.scOnBrake hF (h.undelivered _ _ hs)))

end Tame

/-! ### What the delivery of the brake record keeps -/

/-- The end of a TBC event writes the control line and the supplementary line (R178). -/
theorem tbcFinish_vo (s : State) : (tbcFinish s).vo
    = (writeChan chSupp (if s.tbc.cur.supp = .vented then 0 else 1)
        (writeChan chCtrl (controlCommand s.pc.limits.pTrlMax s.tbc) (tbcForm s))).vo := by
  unfold tbcFinish
  simp [tbcForm]

@[simp] theorem writeChan_supply (i : Fin 14) (cmd : Nat) (s : State) : (writeChan i cmd s).vo.supply = s.vo.supply := rfl

@[simp] theorem tbcFinish_supply (s : State) : (tbcFinish s).vo.supply = s.vo.supply := by
  rw [tbcFinish_vo]
  simp

/-- The end of a TBC event leaves every channel but the two trailer lines (R178). -/
theorem tbcFinish_other {j : Fin 14} (h : j.val < 12) (s : State) : (tbcFinish s).vo.chan[j] = s.vo.chan[j] := by
  have h1 : chCtrl ≠ j := fun e => by subst e; exact absurd h (by decide)
  have h2 : chSupp ≠ j := fun e => by subst e; exact absurd h (by decide)
  rw [tbcFinish_vo, writeChan_other h2, writeChan_other h1]
  simp [tbcForm]

/-- The delivery of brake record publications keeps the HC, the supply, the two hitch channels and every entry but the two that a
step's timeout raises (R127, R134, R141). -/
theorem settle_keeps (s : State) : (settle s).hc = s.hc ∧ (settle s).vo.supply = s.vo.supply
    ∧ (settle s).vo.supplyHold = s.vo.supplyHold
    ∧ (settle s).vo.chan[chRaise] = s.vo.chan[chRaise] ∧ (settle s).vo.chan[chLower] = s.vo.chan[chLower]
    ∧ ∀ i : Fin 47, i ≠ fFillTimeout → i ≠ fSyncTimeout → (settle s).ft[i] = s.ft[i] := by
  let P (t : State) : Prop := t.hc = s.hc ∧ t.vo.supply = s.vo.supply ∧ t.vo.supplyHold = s.vo.supplyHold
    ∧ t.vo.chan[chRaise] = s.vo.chan[chRaise] ∧ t.vo.chan[chLower] = s.vo.chan[chLower]
    ∧ ∀ i : Fin 47, i ≠ fFillTimeout → i ≠ fSyncTimeout → t.ft[i] = s.ft[i]
  have hP : Tame (fun i => i = fFillTimeout ∨ i = fSyncTimeout) P :=
    { drive := fun t ⟨h1, h2, h3, h4, h5, h6⟩ => by
        refine ⟨by simp [h1], by simp [tbcOnDriveline, h2], ?_, ?_, ?_, fun i hi hj => by simpa using h6 i hi hj⟩
        · unfold tbcOnDriveline
          rw [tbcFinish_vo]
          simpa [writeChan, formDrive, tbcForm] using h3
        · unfold tbcOnDriveline
          rw [tbcFinish_other (by decide)]
          simpa using h4
        · unfold tbcOnDriveline
          rw [tbcFinish_other (by decide)]
          simpa using h5
      lp := fun _ _ h => h
      sc := fun _ _ h => h
      fdm := fun _ _ h => h
      undelivered := fun _ _ h => h
      chan := fun t i cmd hi ⟨h1, h2, h3, h4, h5, h6⟩ => by
        have r1 : i ≠ chRaise := fun e => by subst e; exact absurd hi (by decide)
        have r2 : i ≠ chLower := fun e => by subst e; exact absurd hi (by decide)
        exact ⟨by simp [h1], by simp [h2], h3, by rw [writeChan_other r1, h4], by rw [writeChan_other r2, h5], by simpa using h6⟩
      fault := fun t i e hi ⟨h1, h2, h3, h4, h5, h6⟩ => by
        refine ⟨h1, h2, h3, h4, h5, fun j hj hk => ?_⟩
        have : i ≠ j := by rintro rfl; rcases hi with h | h <;> contradiction
        rw [← h6 j hj hk]
        exact Vector.getElem_set_ne i.isLt j.isLt fun e => this (Fin.ext e) }
  exact hP.settle ⟨.inl rfl, .inr rfl⟩ ⟨rfl, rfl, rfl, rfl, rfl, fun _ _ _ => rfl⟩

end Sys2Proof.Machine
end

