-- ==== Sys2Proof/Laws/Brake.lean ====
section
/-! SUPPORT. What the end of a TBC event shows: `tbcFinish` forms P_cmd and publishes the record (R178, R182), and what it shows
stands through the rest of the event, so that `BrakeShows` holds at its end. -/

namespace Sys2Proof.Machine

open Sys2Proof

/-- The TBC forms the brake record `after`, but for its time, pre-brake and P_cmd, in an event that began in `s0`. -/
structure BrakeForms (after : BrakeRecord) (s0 s : State) : Prop where
  time : s.time = s0.time
  pc : s.pc = s0.pc
  curve : s.tbc.curve = s0.tbc.curve
  pPre : s.tbc.pPre = s0.tbc.pPre
  pSafe : s.tbc.pSafe = s0.tbc.pSafe
  cur : s.tbc.cur = { after with
    time := s.tbc.cur.time, preBrake := s.tbc.cur.preBrake, pCmd := s.tbc.cur.pCmd }
  pub : s.tbc.pub ≠ s0.tbc.pub → s.tbc.pub.time = s0.time
  hold : s.tbc.cur.pCmd ≠ after.pCmd → s.tbc.devHold = none
  off : after.mode ≠ .road → after.preBrake = .off → s.tbc.cur.preBrake = .off

/-- The TBC has formed P_cmd for it, written both channels and published it. -/
structure BrakeFormed (after : BrakeRecord) (s0 s : State) : Prop extends BrakeForms after s0 s where
  cmd : s.tbc.cur.pCmd = commandOf s0.pc.limits.pTrlMax { s0.tbc with cur := after } s.tbc.cur.preBrake
  shown : { s.tbc.cur with time := s.tbc.pub.time } = s.tbc.pub
  ctrl : (s.vo.chan[chCtrl]).command = min s.tbc.cur.pCmd 2000
  supp : (s.vo.chan[chSupp]).command = if after.supp = .vented then 0 else 1

/-- P_cmd as R182 gives it, for the record the TBC has. -/
theorem controlCommand_eq (top : Nat) (t : TrailerBrake) : controlCommand top t = commandOf top t t.cur.preBrake := by
  unfold controlCommand commandOf BrakeRecord.checking
  by_cases h : t.cur.check = .idle <;> simp [h, Config.testPressure]

/-- The end of a TBC event leaves of the TBC what forming and publishing the record leave. -/
theorem tbcFinish_tbc (s : State) : (tbcFinish s).tbc = (tbcPublish (tbcForm s)).tbc := by
  unfold tbcFinish tbcPublish
  dsimp only
  simp
  split <;> simp

/-- The end of a TBC event: P_cmd is formed, both channels are written and the record is published (R178). -/
theorem BrakeForms.finish {after : BrakeRecord} {s0 s : State} (h : BrakeForms after s0 s) :
    BrakeFormed after s0 (tbcFinish s) := by
  have hcur := h.cur
  have hcmd : controlCommand s.pc.limits.pTrlMax s.tbc
      = commandOf s0.pc.limits.pTrlMax { s0.tbc with cur := after } s.tbc.cur.preBrake := by
    rw [controlCommand_eq, h.pc]
    unfold commandOf
    simp only [h.curve, h.pPre, h.pSafe]
    rw [hcur]
  have hsupp : s.tbc.cur.supp = after.supp := by rw [hcur]
  have hv : ∀ j : Fin 14, (tbcFinish s).vo.chan[j]
      = (writeChan chSupp (if s.tbc.cur.supp = .vented then 0 else 1)
          (writeChan chCtrl (controlCommand s.pc.limits.pTrlMax s.tbc) (tbcForm s))).vo.chan[j] := fun j => by
    rw [tbcFinish_vo]
  have hctrl : ((tbcFinish s).vo.chan[chCtrl]).command = min (controlCommand s.pc.limits.pTrlMax s.tbc) 2000 := by
    rw [hv, writeChan_other (by decide), writeChan_command]; rfl
  have hs : ((tbcFinish s).vo.chan[chSupp]).command = if after.supp = .vented then 0 else 1 := by
    rw [hv, writeChan_command, hsupp]
    split <;> rfl
  have key := tbcFinish_tbc s
  have hcur' : (tbcPublish (tbcForm s)).tbc.cur = { after with
      time := (tbcPublish (tbcForm s)).tbc.cur.time, preBrake := s.tbc.cur.preBrake
      pCmd := controlCommand s.pc.limits.pTrlMax s.tbc } := by
    unfold tbcPublish tbcForm
    dsimp only
    split
    · dsimp only
      rw [hcur]
    · dsimp only
      rw [hcur]
  have hpre : (tbcPublish (tbcForm s)).tbc.cur.preBrake = s.tbc.cur.preBrake := by rw [hcur']
  have hp : (tbcPublish (tbcForm s)).tbc.cur.pCmd = controlCommand s.pc.limits.pTrlMax s.tbc := by rw [hcur']
  have hd : (tbcPublish (tbcForm s)).tbc.devHold
      = if controlCommand s.pc.limits.pTrlMax s.tbc = s.tbc.cur.pCmd then s.tbc.devHold else none := by
    unfold tbcPublish tbcForm
    dsimp only
    split <;> rfl
  have hshown : { (tbcPublish (tbcForm s)).tbc.cur with time := (tbcPublish (tbcForm s)).tbc.pub.time }
      = (tbcPublish (tbcForm s)).tbc.pub := by
    unfold tbcPublish
    split
    · assumption
    · rfl
  have hpub : (tbcPublish (tbcForm s)).tbc.pub ≠ s0.tbc.pub → (tbcPublish (tbcForm s)).tbc.pub.time = s0.time := by
    unfold tbcPublish
    split
    · exact h.pub
    · intro _; exact h.time
  refine
    { time := by simp [h.time], pc := by simp [h.pc], curve := ?_, pPre := ?_, pSafe := ?_, cur := ?_, pub := ?_
      hold := ?_, off := ?_, cmd := ?_, shown := ?_, ctrl := ?_, supp := hs }
  all_goals rw [key]
  · rw [← h.curve]; unfold tbcPublish; split <;> rfl
  · rw [← h.pPre]; unfold tbcPublish; split <;> rfl
  · rw [← h.pSafe]; unfold tbcPublish; split <;> rfl
  · rw [hpre, hp]; exact hcur'
  · exact hpub
  · rw [hp, hd]
    intro hne
    split
    · exact h.hold (by rename_i he; rw [← he]; exact hne)
    · rfl
  · rw [hpre]; exact h.off
  · rw [hp, hcmd, hpre]
  · exact hshown
  · rw [hctrl, hp]

/-- The test of pre-brake changes pre-brake and its timer alone, and makes nothing of it outside ROAD (R189). -/
theorem BrakeForms.preBrake {after : BrakeRecord} {s0 s : State} (h : BrakeForms after s0 s) :
    BrakeForms after s0 (preBrakeTest s) := by
  have hcur := h.cur
  unfold preBrakeTest
  dsimp only
  split
  · rename_i hq
    have hm : after.mode = .road := by
      have : s.tbc.cur.mode = .road := by
        simp only [preBrakeQualifies, decide_eq_true_eq] at hq
        exact hq.1
      rw [hcur] at this
      exact this
    exact ⟨h.time, h.pc, h.curve, h.pPre, h.pSafe, by dsimp only; rw [hcur], h.pub, h.hold, fun x => absurd hm x⟩
  · split
    · rename_i ha
      exact ⟨h.time, h.pc, h.curve, h.pPre, h.pSafe, by dsimp only; rw [hcur], h.pub, h.hold,
        fun x y => by have := h.off x y; rw [ha] at this; contradiction⟩
    · exact h

/-- A property of the TBC, part time, the PC and the trailer channels' commands that the TBC keeps as it takes a publication of
the driveline record is kept by everything else. -/
theorem Tame.ofBrake {P : State → Prop} (drive : ∀ s, P s → P (tbcOnDriveline s))
    (frame : ∀ s t : State, t.tbc = s.tbc → t.time = s.time → t.pc = s.pc →
      (t.vo.chan[chCtrl]).command = (s.vo.chan[chCtrl]).command →
      (t.vo.chan[chSupp]).command = (s.vo.chan[chSupp]).command → P s → P t) : Tame (fun _ => True) P where
  drive := drive
  lp s x hs := frame s { s with lp := x } rfl rfl rfl rfl rfl hs
  sc s x hs := frame s { s with sc := x } rfl rfl rfl rfl rfl hs
  fdm s x hs := frame s { s with fdm := x } rfl rfl rfl rfl rfl hs
  undelivered s x hs := frame s { s with undelivered := x } rfl rfl rfl rfl rfl hs
  fault s i e _ hs := frame s (modFault i e s) rfl rfl rfl rfl rfl hs
  chan s i cmd hi hs := by
    have h1 : i ≠ chCtrl := fun e => by subst e; exact absurd hi (by decide)
    have h2 : i ≠ chSupp := fun e => by subst e; exact absurd hi (by decide)
    exact frame s _ (by simp) (by simp) (by simp) (by rw [writeChan_other h1]) (by rw [writeChan_other h2]) hs

/-- What the end of a TBC event shows stands through everything that follows it in the event. -/
theorem BrakeFormed.tame (after : BrakeRecord) (s0 : State) : Tame (fun _ => True) (BrakeFormed after s0) :=
  .ofBrake (fun _ h => h.toBrakeForms.preBrake.finish) fun s t hb ht hp h1 h2 h =>
    { time := by rw [ht, h.time], pc := by rw [hp, h.pc], curve := by rw [hb, h.curve], pPre := by rw [hb, h.pPre]
      pSafe := by rw [hb, h.pSafe], cur := by rw [hb]; exact h.cur, pub := by rw [hb]; exact h.pub
      hold := by rw [hb]; exact h.hold, off := by rw [hb]; exact h.off, cmd := by rw [hb]; exact h.cmd
      shown := by rw [hb]; exact h.shown, ctrl := by rw [hb, h1]; exact h.ctrl, supp := by rw [h2]; exact h.supp }

/-- While the TBC forms a record, everything but its own acts leaves it forming that record. -/
theorem BrakeForms.tame (after : BrakeRecord) (s0 : State) : Tame (fun _ => True) (BrakeForms after s0) :=
  .ofBrake (fun _ h => h.preBrake.finish.toBrakeForms) fun s t hb ht hp _ _ h =>
    { time := by rw [ht, h.time], pc := by rw [hp, h.pc], curve := by rw [hb, h.curve], pPre := by rw [hb, h.pPre]
      pSafe := by rw [hb, h.pSafe], cur := by rw [hb]; exact h.cur, pub := by rw [hb]; exact h.pub
      hold := by rw [hb]; exact h.hold, off := by rw [hb]; exact h.off }

/-! ### An event in which no shift starts -/

/-- Pre-brake of `after` agrees with the driveline record of `s0`, and a PENDING head of `s0` still has a cause to wait. -/
def PreBrakeRests (after : BrakeRecord) (s0 : State) : Prop :=
  (after.preBrake = .active ↔ Qualifies after s0.sc.pub) ∧
    (s0.sc.pub.state = .pending → ∀ e rest, s0.sc.queue = e :: rest → s0.vo.supply = .low
      ∨ (e.dir = s0.sc.pub.dir ∧ s0.sc.pub.gear < e.gear ∧ after.braking = true))

/-- The driveline record of `s` is that of `s0` but for its time and above_window, with the same queue and supply, and pre-brake
stands as `after` has it. -/
structure BrakeRests (after : BrakeRecord) (s0 s : State) : Prop extends BrakeForms after s0 s where
  drive : s.sc.pub = { s0.sc.pub with time := s.sc.pub.time, above := s.sc.pub.above }
  queue : s.sc.queue = s0.sc.queue
  supply : s.vo.supply = s0.vo.supply
  pre : s.tbc.cur.preBrake = after.preBrake

@[simp] theorem tbcFinish_preBrake (s : State) : (tbcFinish s).tbc.cur.preBrake = s.tbc.cur.preBrake := by
  rw [tbcFinish_tbc]
  unfold tbcPublish
  split <;> rfl

@[simp] theorem fdmEvaluate_supply (motion : Bool) (s : State) : (fdmEvaluate motion s).vo.supply = s.vo.supply := by
  have hc : ∀ (n : FrontState) (s : State), (fdmChange n s).vo.supply = s.vo.supply := fun _ _ => rfl
  have hg : ∀ (d : Bool) (n : FrontState) (s : State), (fdmGuarded d n s).vo.supply = s.vo.supply := by
    intro d n s
    unfold fdmGuarded
    split <;> rfl
  have hs : (fdmSlip s).vo = s.vo := by simp
  unfold fdmEvaluate fdmAct
  dsimp only
  repeat' split
  all_goals simp [hc, hg]

theorem BrakeRests.finish {after : BrakeRecord} {s0 s : State} (h : BrakeRests after s0 s) :
    BrakeRests after s0 (tbcFinish s) :=
  { h.toBrakeForms.finish.toBrakeForms with
    drive := by simp only [tbcFinish_same]; exact h.drive
    queue := by simp only [tbcFinish_same]; exact h.queue
    supply := by rw [tbcFinish_supply, h.supply]
    pre := by rw [tbcFinish_preBrake, h.pre] }

theorem BrakeRests.driveline {after : BrakeRecord} {s0 : State} (hr : PreBrakeRests after s0) {s : State}
    (h : BrakeRests after s0 s) : BrakeRests after s0 (tbcOnDriveline s) := by
  have hq : preBrakeQualifies s.tbc.cur s.sc.pub = true ↔ after.preBrake = .active := by
    rw [hr.1, h.cur, h.drive]
    simp only [preBrakeQualifies, decide_eq_true_eq]
    constructor <;> rintro ⟨h1, h2, h3, h4⟩ <;> exact ⟨h1, h2, h3, h4.symm⟩
  have key : BrakeRests after s0 (preBrakeTest s) :=
    { h.toBrakeForms.preBrake with
      drive := by simp only [preBrakeTest_same]; exact h.drive
      queue := by simp only [preBrakeTest_same]; exact h.queue
      supply := by simp only [preBrakeTest_same]; exact h.supply
      pre := by
        unfold preBrakeTest
        dsimp only
        split
        · rw [hq.1 ‹_›]
        · split
          · rename_i h1 h2
            exact absurd (hq.2 (h.pre ▸ h2)) h1
          · exact h.pre }
  exact key.finish

section
variable {after : BrakeRecord} {s0 : State} (hr : PreBrakeRests after s0)
include hr

theorem BrakeRests.window {s : State} (h : BrakeRests after s0 s) (always : Bool) :
    BrakeRests after s0 (scWindow always s) := by
  have post : ∀ {u : State} (k : NoticeKind) (v1 v2 : Nat), BrakeRests after s0 u → BrakeRests after s0 (post k v1 v2 u) :=
    fun k v1 v2 h => { h with toBrakeForms := (BrakeForms.tame after s0).post h.toBrakeForms _ _ _ }
  have above : ∀ {u : State}, BrakeRests after s0 u → BrakeRests after s0 (evalAbove u) := by
    intro u h
    unfold evalAbove scPublish
    split
    · exact h
    · refine BrakeRests.driveline hr ?_
      exact { (BrakeForms.tame after s0).sc _ _ h.toBrakeForms with
              drive := by dsimp only; rw [h.drive], queue := h.queue, supply := h.supply, pre := h.pre }
  unfold scWindow postAbove
  extract_lets old w ab _ u v
  have hu : BrakeRests after s0 u :=
    { (BrakeForms.tame after s0).sc _ _ h.toBrakeForms with
      drive := h.drive, queue := h.queue, supply := h.supply, pre := h.pre }
  have hv : BrakeRests after s0 v := by
    show BrakeRests after s0 (if _ then _ else _)
    split
    · exact post _ _ _ hu
    · exact hu
  split
  · exact post _ _ _ (above hv)
  · exact above hv

theorem BrakeRests.tell {s : State} (h : BrakeRests after s0 s) (i : Fin 47) : BrakeRests after s0 (ftTell i s) := by
  unfold ftTell
  split
  · exact h.window hr _
  · exact h

omit hr in
theorem BrakeRests.modFault {s : State} (h : BrakeRests after s0 s) (i : Fin 47) (e : FaultEntry) (k : NoticeKind)
    (lvl v1 v2 : Nat) : BrakeRests after s0 (postAt k lvl v1 v2 (modFault i e s)) :=
  { (BrakeForms.tame after s0).postAt ((BrakeForms.tame after s0).fault _ _ _ trivial h.toBrakeForms) _ _ _ _ with
    drive := h.drive, queue := h.queue, supply := h.supply, pre := h.pre }

theorem BrakeRests.ftStart {s : State} (h : BrakeRests after s0 s) (i : Fin 47) (d : Nat) :
    BrakeRests after s0 (ftStart i d s) := by
  unfold Machine.ftStart
  dsimp only
  split
  · exact h
  all_goals exact (h.modFault _ _ _ _ _ _).tell hr _

theorem BrakeRests.ftEnd {s : State} (h : BrakeRests after s0 s) (i : Fin 47) : BrakeRests after s0 (ftEnd i s) := by
  unfold Machine.ftEnd
  dsimp only
  split
  · exact (h.modFault _ _ _ _ _ _).tell hr _
  all_goals exact h

omit hr in
/-- A BRAKING that the record formed shows is published. -/
theorem BrakeFormed.braking {s : State} (h : BrakeFormed after s0 s) : s.tbc.pub.braking = after.braking := by
  rw [← h.shown, h.cur]

theorem BrakeRests.scOnBrake {s : State} (h : BrakeRests after s0 s) (hf : BrakeFormed after s0 s) :
    BrakeRests after s0 (scOnBrake s) := by
  have hw := h.window hr false
  have hfw := (BrakeFormed.tame after s0).scWindow hf false
  unfold Machine.scOnBrake
  dsimp only
  split
  · rename_i hp
    unfold pendingTest
    split
    · exact hw
    · rename_i e rest hq
      have hs := hr.2 (by rw [hw.drive] at hp; exact hp) e rest (by rw [← hw.queue, hq])
      have hwt : BrakeRests after s0 (waitTimers e (scWindow false s)) :=
        { (BrakeForms.tame after s0).waitTimers hw.toBrakeForms e with
          drive := hw.drive, queue := hw.queue, supply := hw.supply, pre := hw.pre }
      dsimp only
      rw [if_neg]
      · exact hwt
      · unfold startReady isUpshift
        rw [hwt.supply, show (waitTimers e (scWindow false s)).tbc = (scWindow false s).tbc from rfl, hfw.braking, hwt.drive]
        rcases hs with h1 | ⟨h1, h2, h3⟩
        · simp [h1]
        · simp [h1, h2, h3]
  · exact hw

theorem BrakeRests.settle {s : State} (h : BrakeRests after s0 s) (hf : BrakeFormed after s0 s) :
    BrakeRests after s0 (settle s) := by
  unfold Machine.settle
  generalize Config.deliveryFuel = n
  induction n generalizing s with
  | zero => exact { h with }
  | succ n ih =>
    unfold deliverBrake
    split
    · exact h
    · have h1 : BrakeRests after s0 { s with undelivered := s.undelivered - 1 } := { h with }
      have f1 := (BrakeFormed.tame after s0).undelivered _ (s.undelivered - 1) hf
      have h2 := h1.scOnBrake hr f1
      have f2 := (BrakeFormed.tame after s0).scOnBrake ⟨trivial, trivial⟩ f1
      have f3 : BrakeFormed after s0 (fdmEvaluate false (Machine.scOnBrake { s with undelivered := s.undelivered - 1 })) :=
        (BrakeFormed.tame after s0).fdmAct ((BrakeFormed.tame after s0).fdm _ _ f2)
      refine ih { f3.toBrakeForms with drive := ?_, queue := ?_, supply := ?_, pre := ?_ } f3
      · simp only [fdmEvaluate_same]; exact h2.drive
      · simp only [fdmEvaluate_same]; exact h2.queue
      · rw [fdmEvaluate_supply, h2.supply]
      · simp only [fdmEvaluate_same]; exact h2.pre

end

/-- What the TBC has formed stands. -/
theorem BrakeFormed.stands {after : BrakeRecord} {s0 s : State} (h : BrakeFormed after s0 s) : BrakeStands after s0 s := by
  have hp : s.tbc.pub.pCmd = s.tbc.cur.pCmd := by rw [← h.shown]
  have hb : s.tbc.pub.preBrake = s.tbc.cur.preBrake := by rw [← h.shown]
  have hcur := h.cur
  refine ⟨?_, fun x => h.hold (hp ▸ x), by rw [hp]; exact h.ctrl, h.supp, h.pub, fun x y => by rw [hb]; exact h.off x y⟩
  rw [hb, ← h.cmd]
  conv_lhs => rw [← h.shown, hcur]

/-- An event of the TBC that forms `after` and settles shows it (R177, R178, R182). -/
theorem BrakeFormed.shows {after : BrakeRecord} {s0 s : State} (hf : BrakeFormed after s0 s)
    (hr : PreBrakeRests after s0 → BrakeRests after s0 s) : BrakeShows after s0 (settle s) := by
  have h := (BrakeFormed.tame after s0).settle ⟨trivial, trivial⟩ hf
  refine ⟨h.stands, fun x y => ?_⟩
  have hb : (settle s).tbc.pub.preBrake = (settle s).tbc.cur.preBrake := by rw [← h.shown]
  rw [hb]
  exact ((hr ⟨x, y⟩).settle ⟨x, y⟩ hf).pre

end Sys2Proof.Machine
end

