-- ==== Sys2Proof/Laws/Hitch.lean ====
section
/-! SUPPORT. What the HC's shared operations do, once each: a write of both valve commands, the commands of a state, a change of
state, a stop and a hold (R153, R169, R174). -/

namespace Sys2Proof.Machine

open Sys2Proof

/-- The channels `vo` of a state as the HC leaves those of `s`, with RAISE and LOWER commanded as given. -/
structure HitchChans (up down : Nat) (vo : ValveOut) (s : State) : Prop where
  raise : (vo.chan[chRaise]).command = min up 1000
  lower : (vo.chan[chLower]).command = min down 1000
  other : ∀ j : Fin 14, j ≠ chRaise → j ≠ chLower → vo.chan[j] = s.vo.chan[j]
  rest : vo = { s.vo with chan := vo.chan }

/-- Both commands written (R153). -/
theorem hcWrite_eq (raise lower : Nat) (s : State) : ∃ vo, HitchChans raise lower vo s
    ∧ hcWrite raise lower s = { s with vo := vo, hc := { s.hc with raiseCmd := raise, lowerCmd := lower } } := by
  refine ⟨(hcWrite raise lower s).vo, ⟨?_, ?_, fun j h1 h2 => ?_, ?_⟩, ?_⟩
  all_goals
    unfold hcWrite
    dsimp only
    split
  · rw [writeChan_other (by decide), writeChan_command]; rfl
  · rw [writeChan_command]; rfl
  · rw [writeChan_command]; rfl
  · rw [writeChan_other (by decide), writeChan_command]; rfl
  · rw [writeChan_other h2.symm, writeChan_other h1.symm]
  · rw [writeChan_other h1.symm, writeChan_other h2.symm]
  all_goals rfl

/-- The commands of a state that does not run the control law (R153, R165, R167, R168). -/
theorem hcDrive_eq (s : State) :
    let h := s.hc
    let hard := s.pc.limits.pHitchUpperHard
    let rising := h.reached = false ∧ h.pos < hard
    let raise := if ((h.state = .headland ∨ h.state = .shock) ∧ h.pos < upperLimit s) ∨ (h.state = .transport ∧ rising)
      then h.cfg.vMax else 0
    ∃ vo, HitchChans raise 0 vo s ∧ hcDrive s = { s with
      vo := vo
      hc := { h with
        raiseCmd := raise, lowerCmd := 0, reached := h.reached || decide (h.state = .transport ∧ ¬rising) } } := by
  intro h hard rising raise
  unfold hcDrive
  split <;> rename_i hs
  case h_3 =>
    split <;> rename_i hr
    · obtain ⟨vo, hv, e⟩ := hcWrite_eq h.cfg.vMax 0 s
      have hx : raise = h.cfg.vMax := if_pos (.inr ⟨hs, hr⟩)
      rw [hx]
      refine ⟨vo, hv, ?_⟩
      rw [e]
      simp [h, rising, hr, hs, hard]
    · obtain ⟨vo, hv, e⟩ := hcWrite_eq 0 0 { s with hc := { h with reached := true } }
      have hx : raise = 0 := if_neg (by
        rintro (⟨h1 | h1, -⟩ | ⟨-, h1⟩)
        · simp [h, hs] at h1
        · simp [h, hs] at h1
        · exact hr h1)
      rw [hx]
      refine ⟨vo, ⟨hv.raise, hv.lower, hv.other, hv.rest⟩, ?_⟩
      rw [e]
      have : decide (h.state = .transport ∧ ¬rising) = true := decide_eq_true ⟨hs, hr⟩
      rw [this, Bool.or_true]
  all_goals
    have hd : decide (h.state = .transport ∧ ¬rising) = false := by simp [h, hs]
    rw [hd, Bool.or_false]
    obtain ⟨vo, hv, e⟩ := hcWrite_eq raise 0 s
    refine ⟨vo, hv, Eq.trans ?_ e⟩
    congr 1
    simp [raise, h, hs]

/-- A change of the hitch state (R153). -/
theorem hcChange_eq (new ret : HitchState) (s : State) :
    let h := hcEnter new ret s.time s.hc
    let hard := s.pc.limits.pHitchUpperHard
    let rising := h.reached = false ∧ h.pos < hard
    let raise := if ((new = .headland ∨ new = .shock) ∧ h.pos < upperLimit s) ∨ (new = .transport ∧ rising) then h.cfg.vMax else 0
    ∃ vo, HitchChans raise 0 vo s ∧ hcChange new ret s = { s with
      vo := vo
      lp := offerAll [noticeOf s .hitchState 0 .hc new.code s.hc.state.code] s.lp
      hc := { h with raiseCmd := raise, lowerCmd := 0, reached := h.reached || decide (new = .transport ∧ ¬rising) } } := by
  intro h hard rising raise
  obtain ⟨vo, hv, e⟩ := hcDrive_eq { s with hc := h }
  refine ⟨vo, ⟨hv.raise, hv.lower, hv.other, hv.rest⟩, ?_⟩
  unfold hcChange
  dsimp only
  rw [show ({ s with hc := hcEnter new ret s.time s.hc } : State) = { s with hc := h } from rfl, e]
  rfl

/-- The record of a hitch that a change to a state without commands of its own leaves. -/
def settledIn (new ret : HitchState) (t : Nat) (h : Hitch) : Hitch :=
  { hcEnter new ret t h with raiseCmd := 0, lowerCmd := 0 }

/-- A change to LOCKED_OUT, CONTROL, HELD or STOPPED writes both commands 0 (R153). -/
theorem hcChange_rest {new : HitchState} (hn : new = .lockedOut ∨ new = .control ∨ new = .held ∨ new = .stopped)
    (ret : HitchState) (s : State) : ∃ vo, HitchChans 0 0 vo s ∧ hcChange new ret s = { s with
      vo := vo
      lp := offerAll [noticeOf s .hitchState 0 .hc new.code s.hc.state.code] s.lp
      hc := settledIn new ret s.time s.hc } := by
  obtain ⟨vo, hv, e⟩ := hcChange_eq new ret s
  have h0 : ∀ (a b : Prop) [Decidable a] [Decidable b] (x : Nat),
      (if ((new = .headland ∨ new = .shock) ∧ a) ∨ (new = .transport ∧ b) then x else 0) = 0 := by
    intro a b _ _ x
    rcases hn with rfl | rfl | rfl | rfl <;> simp
  have h1 : ∀ (x : Bool) (b : Prop) [Decidable b], (x || decide (new = .transport ∧ b)) = x := by
    intro x b _
    rcases hn with rfl | rfl | rfl | rfl <;> simp
  refine ⟨vo, ⟨?_, hv.lower, hv.other, hv.rest⟩, ?_⟩
  · rw [hv.raise, h0]
  · rw [e]
    simp only [h0, h1]
    rfl

/-- A stop of a hitch not STOPPED yet (R174). -/
theorem hcStop_eq {s : State} (h : s.hc.state ≠ .stopped) : ∃ vo, HitchChans 0 0 vo s ∧ hcStop s = { s with
    vo := vo
    lp := offerAll [noticeOf s .hitchState 0 .hc 6 s.hc.state.code] s.lp
    hc := settledIn .stopped .lockedOut s.time s.hc } := by
  unfold hcStop
  rw [if_neg h]
  exact hcChange_rest (by simp) _ _

/-- A hold of a hitch in CONTROL, SHOCK, HEADLAND or TRANSPORT (R169). -/
theorem hcHold_eq {s : State}
    (h : s.hc.state = .control ∨ s.hc.state = .shock ∨ s.hc.state = .headland ∨ s.hc.state = .transport) :
    ∃ vo, HitchChans 0 0 vo s ∧ hcHold s = { s with
      vo := vo
      lp := offerAll [noticeOf s .hitchState 0 .hc 5 s.hc.state.code] s.lp
      hc := settledIn .held (if s.hc.state = .shock then .control else s.hc.state) s.time s.hc } := by
  have e : hcHold s = hcChange .held (if s.hc.state = .shock then .control else s.hc.state) s := by
    unfold hcHold
    rcases h with h | h | h | h <;> simp [h]
  rw [e]
  exact hcChange_rest (by simp) _ _

/-- A hold changes nothing in LOCKED_OUT, HELD and STOPPED (R169). -/
theorem hcHold_rest {s : State}
    (h : ¬(s.hc.state = .control ∨ s.hc.state = .shock ∨ s.hc.state = .headland ∨ s.hc.state = .transport)) :
    hcHold s = s := by
  unfold hcHold
  split <;> first | rfl | (rename_i hs; exact absurd hs (by simp_all))

end Sys2Proof.Machine
end

