-- ==== Sys2Proof/Laws/PerInstr.lean ====
section
/-! SUPPORT. Statements about every command, made constructor by constructor. -/

namespace Sys2Proof.Laws

open Sys2Proof

/-- A well-formed command that carries a request frame carries the 27 body bytes of one, and its kind is in the
catalogue (R2, R14). -/
def FrameWellFormed.Statement (i : Instr) : Prop :=
  i.wf = true → ∀ k f, Machine.requestOfRow i = some (k, f) → f.wf = true ∧ 1 ≤ k.toNat ∧ k.toNat ≤ 40

namespace FrameWellFormed

theorem powerOn : Statement .powerOn := by
  intro _ k g h
  cases h

theorem tornFrame (bits : List Bool) : Statement (.tornFrame bits) := by
  intro _ k g h
  cases h

theorem crcFailure (kind : Byte) (f : Request) (crc : Word16) : Statement (.crcFailure kind f crc) := by
  intro _ k g h
  cases h

theorem unknownRequest (kind : Byte) (f : Request) : Statement (.unknownRequest kind f) := by
  intro _ k g h
  cases h

theorem poll (f : Request) : Statement (.poll f) := by
  intro hw k g h
  cases h
  exact ⟨hw, by decide, by decide⟩

theorem status (f : Request) : Statement (.status f) := by
  intro hw k g h
  cases h
  exact ⟨hw, by decide, by decide⟩

theorem read (f : Request) : Statement (.read f) := by
  intro hw k g h
  cases h
  exact ⟨hw, by decide, by decide⟩

theorem fetchNotice (f : Request) : Statement (.fetchNotice f) := by
  intro hw k g h
  cases h
  exact ⟨hw, by decide, by decide⟩

theorem setNoticeLevel (f : Request) : Statement (.setNoticeLevel f) := by
  intro hw k g h
  cases h
  exact ⟨hw, by decide, by decide⟩

theorem cfgLink (f : Request) : Statement (.cfgLink f) := by
  intro hw k g h
  cases h
  exact ⟨hw, by decide, by decide⟩

theorem resume (f : Request) : Statement (.resume f) := by
  intro hw k g h
  cases h
  exact ⟨hw, by decide, by decide⟩

theorem restart (f : Request) : Statement (.restart f) := by
  intro hw k g h
  cases h
  exact ⟨hw, by decide, by decide⟩

theorem start (f : Request) : Statement (.start f) := by
  intro hw k g h
  cases h
  exact ⟨hw, by decide, by decide⟩

theorem cfgLimits (f : Request) : Statement (.cfgLimits f) := by
  intro hw k g h
  cases h
  exact ⟨hw, by decide, by decide⟩

theorem lockLimits (f : Request) : Statement (.lockLimits f) := by
  intro hw k g h
  cases h
  exact ⟨hw, by decide, by decide⟩

theorem cfgScanStep (f : Request) : Statement (.cfgScanStep f) := by
  intro hw k g h
  cases h
  exact ⟨hw, by decide, by decide⟩

theorem cfgRole (f : Request) : Statement (.cfgRole f) := by
  intro hw k g h
  cases h
  exact ⟨hw, by decide, by decide⟩

theorem cfgDraft (f : Request) : Statement (.cfgDraft f) := by
  intro hw k g h
  cases h
  exact ⟨hw, by decide, by decide⟩

theorem cfgSpeedInput (f : Request) : Statement (.cfgSpeedInput f) := by
  intro hw k g h
  cases h
  exact ⟨hw, by decide, by decide⟩

theorem scanStart (f : Request) : Statement (.scanStart f) := by
  intro hw k g h
  cases h
  exact ⟨hw, by decide, by decide⟩

theorem scanStop (f : Request) : Statement (.scanStop f) := by
  intro hw k g h
  cases h
  exact ⟨hw, by decide, by decide⟩

theorem engineInfo (f : Request) : Statement (.engineInfo f) := by
  intro hw k g h
  cases h
  exact ⟨hw, by decide, by decide⟩

theorem cfgOutput (f : Request) : Statement (.cfgOutput f) := by
  intro hw k g h
  cases h
  exact ⟨hw, by decide, by decide⟩

theorem cfgSupply (f : Request) : Statement (.cfgSupply f) := by
  intro hw k g h
  cases h
  exact ⟨hw, by decide, by decide⟩

theorem cfgGear (f : Request) : Statement (.cfgGear f) := by
  intro hw k g h
  cases h
  exact ⟨hw, by decide, by decide⟩

theorem cfgProfileStepWrite (f : Request) : Statement (.cfgProfileStepWrite f) := by
  intro hw k g h
  cases h
  simp_all [Instr.wf]

theorem cfgProfileStepTruncate (f : Request) : Statement (.cfgProfileStepTruncate f) := by
  intro hw k g h
  cases h
  simp_all [Instr.wf]

theorem cfgProfileMap (f : Request) : Statement (.cfgProfileMap f) := by
  intro hw k g h
  cases h
  exact ⟨hw, by decide, by decide⟩

theorem cfgShift (f : Request) : Statement (.cfgShift f) := by
  intro hw k g h
  cases h
  exact ⟨hw, by decide, by decide⟩

theorem shift (f : Request) : Statement (.shift f) := by
  intro hw k g h
  cases h
  exact ⟨hw, by decide, by decide⟩

theorem shuttle (f : Request) : Statement (.shuttle f) := by
  intro hw k g h
  cases h
  exact ⟨hw, by decide, by decide⟩

theorem neutral (f : Request) : Statement (.neutral f) := by
  intro hw k g h
  cases h
  exact ⟨hw, by decide, by decide⟩

theorem cfgFront (f : Request) : Statement (.cfgFront f) := by
  intro hw k g h
  cases h
  exact ⟨hw, by decide, by decide⟩

theorem frontMode (f : Request) : Statement (.frontMode f) := by
  intro hw k g h
  cases h
  exact ⟨hw, by decide, by decide⟩

theorem cfgHitch (f : Request) : Statement (.cfgHitch f) := by
  intro hw k g h
  cases h
  exact ⟨hw, by decide, by decide⟩

theorem hitchSet (f : Request) : Statement (.hitchSet f) := by
  intro hw k g h
  cases h
  exact ⟨hw, by decide, by decide⟩

theorem hitchMode (f : Request) : Statement (.hitchMode f) := by
  intro hw k g h
  cases h
  exact ⟨hw, by decide, by decide⟩

theorem hitchHold (f : Request) : Statement (.hitchHold f) := by
  intro hw k g h
  cases h
  exact ⟨hw, by decide, by decide⟩

theorem hitchRelease (f : Request) : Statement (.hitchRelease f) := by
  intro hw k g h
  cases h
  exact ⟨hw, by decide, by decide⟩

theorem cfgTrailer (f : Request) : Statement (.cfgTrailer f) := by
  intro hw k g h
  cases h
  exact ⟨hw, by decide, by decide⟩

theorem cfgCurvePoint (f : Request) : Statement (.cfgCurvePoint f) := by
  intro hw k g h
  cases h
  exact ⟨hw, by decide, by decide⟩

theorem trailerMode (f : Request) : Statement (.trailerMode f) := by
  intro hw k g h
  cases h
  exact ⟨hw, by decide, by decide⟩

theorem trailerHand (f : Request) : Statement (.trailerHand f) := by
  intro hw k g h
  cases h
  exact ⟨hw, by decide, by decide⟩

theorem lineCheck (f : Request) : Statement (.lineCheck f) := by
  intro hw k g h
  cases h
  exact ⟨hw, by decide, by decide⟩

theorem clearFault (f : Request) : Statement (.clearFault f) := by
  intro hw k g h
  cases h
  exact ⟨hw, by decide, by decide⟩

theorem supervisionExpiry : Statement .supervisionExpiry := by
  intro _ k g h
  cases h

theorem conversionStart : Statement .conversionStart := by
  intro _ k g h
  cases h

theorem conversionEnd (left right : BitVec 13) : Statement (.conversionEnd left right) := by
  intro _ k g h
  cases h

theorem fastSample (left right : BitVec 13) : Statement (.fastSample left right) := by
  intro _ k g h
  cases h

theorem shockTimerExpiry : Statement .shockTimerExpiry := by
  intro _ k g h
  cases h

theorem scanStepDelayEnd : Statement .scanStepDelayEnd := by
  intro _ k g h
  cases h

theorem scanStepConversionEnd (raw : BitVec 12) : Statement (.scanStepConversionEnd raw) := by
  intro _ k g h
  cases h

theorem scanConversionTimeout : Statement .scanConversionTimeout := by
  intro _ k g h
  cases h

theorem scanStaleExpiry : Statement .scanStaleExpiry := by
  intro _ k g h
  cases h

theorem supplyQualificationExpiry : Statement .supplyQualificationExpiry := by
  intro _ k g h
  cases h

theorem pulseEdge (inp : PulseIn) : Statement (.pulseEdge inp) := by
  intro _ k g h
  cases h

theorem pulseGapExpiry (inp : PulseIn) : Statement (.pulseGapExpiry inp) := by
  intro _ k g h
  cases h

theorem motionUpdate : Statement .motionUpdate := by
  intro _ k g h
  cases h

theorem engineInfoStaleExpiry : Statement .engineInfoStaleExpiry := by
  intro _ k g h
  cases h

theorem diagnosticSample (ch : Channel) (current : Word16) (off : OffState) : Statement (.diagnosticSample ch current off) := by
  intro _ k g h
  cases h

theorem overcurrentTrip (ch : Channel) (current : Word16) : Statement (.overcurrentTrip ch current) := by
  intro _ k g h
  cases h

theorem shiftStart : Statement .shiftStart := by
  intro _ k g h
  cases h

theorem supplyWaitExpiry : Statement .supplyWaitExpiry := by
  intro _ k g h
  cases h

theorem brakeWaitExpiry : Statement .brakeWaitExpiry := by
  intro _ k g h
  cases h

theorem modulationUpdate : Statement .modulationUpdate := by
  intro _ k g h
  cases h

theorem stepTimeout : Statement .stepTimeout := by
  intro _ k g h
  cases h

theorem recoveryFailure : Statement .recoveryFailure := by
  intro _ k g h
  cases h

theorem dumpTimeExpiry : Statement .dumpTimeExpiry := by
  intro _ k g h
  cases h

theorem frontWaitExpiry : Statement .frontWaitExpiry := by
  intro _ k g h
  cases h

theorem chargeWindowExpiry : Statement .chargeWindowExpiry := by
  intro _ k g h
  cases h

theorem trlSuppLowHoldExpiry : Statement .trlSuppLowHoldExpiry := by
  intro _ k g h
  cases h

theorem lineCheckStageExpiry : Statement .lineCheckStageExpiry := by
  intro _ k g h
  cases h

theorem preBrakeRunOutExpiry : Statement .preBrakeRunOutExpiry := by
  intro _ k g h
  cases h

end FrameWellFormed

end Sys2Proof.Laws
end

