-- ==== Sys2Proof/Laws/Reports.lean ====
section
/-! SUPPORT. What the operations that publish and report do, once each: the driveline record (R110), the gear window (R105 to
R109), the fault table (R197, R198), a write of the nine clutches, ABORTING (R130) and the abort of a line check (R192). -/

namespace Sys2Proof.Machine

open Sys2Proof

/-- Two lists of notices offered one after the other. -/
theorem offerAll_append (a b : List Notice) (lp : LinkPort) : offerAll (a ++ b) lp = offerAll b (offerAll a lp) := by
  simp [offerAll]

/-! ### The driveline record and the gear window -/

/-- A publication of the driveline record takes its time where the record has changed (R110). -/
theorem scPublish_pub (d : Driveline) (s : State) : 
    (scPublish d s).sc = { s.sc with pub := { d with
      time := if { d with time := s.sc.pub.time } = s.sc.pub then s.sc.pub.time else s.time } } := by
  unfold scPublish
  split
  · rename_i h
    simp only [h]
  · simp

/-- A trailer entry stands (R106). -/
theorem trailerFault_eq (ft : Vector FaultEntry 47) : trailerFault ft = decide
    ((ft[fCtrlDeviation]).state ≠ .clear ∨ (ft[fSuppLow]).state ≠ .clear ∨ (ft[fSuppCharge]).state ≠ .clear) := by
  simp [trailerFault, FaultEntry.stands, Bool.or_assoc]

/-- The gear of the window's basis (R105). -/
theorem windowBasis_gear (l : LimitSet) (b : BrakeRecord) : (windowBasis l b).2 =
    if b.mode ≠ .road then l.gMaxField
    else if b.present = true ∧ b.verified = false then l.gMaxUnverified else l.gMaxRoad := by
  unfold windowBasis
  by_cases h : b.mode = .road <;> simp [h]
  split <;> rfl

/-- The notices of the gear window, from the window it forms (R107, R109). -/
theorem windowNotes_eq (s : State) :
    let w := windowOf s.pc.limits s.tbc.pub s.ft s.time
    let d := s.sc.pub
    windowNotes s s.tbc.pub (trailerFault s.ft) =
      (if w.gHigh ≠ s.sc.window.gHigh ∨ w.reverseCap ≠ s.sc.window.reverseCap then
          [noticeOf s .windowChanged 1 .sc w.gHigh w.reverseCap] else [])
        ++ (if d.dir = .f ∧ w.gHigh < d.gear ∧ d.above = false then
          [noticeOf s .aboveWindow 2 .sc d.gear w.gHigh] else []) := by
  unfold windowNotes
  simp only [← windowBasis_gear]
  rfl

/-- The gear window: its notices, the window, and above_window (R105 to R109). -/
theorem scWindow_does (s : State) :
    let w := windowOf s.pc.limits s.tbc.pub s.ft s.time
    let t := scWindow false s
    t.lp = offerAll (windowNotes s s.tbc.pub (trailerFault s.ft)) s.lp ∧ t.sc.window = w
      ∧ t.sc.pub.above = aboveWindow s.sc.pub w.gHigh ∧ t.sc.pub.dir = s.sc.pub.dir ∧ t.sc.pub.gear = s.sc.pub.gear := by
  intro w t
  rw [windowNotes_eq]
  obtain ⟨u, hu⟩ : ∃ u, u = (if w.gHigh ≠ s.sc.window.gHigh ∨ w.reverseCap ≠ s.sc.window.reverseCap then
      post .windowChanged w.gHigh w.reverseCap { s with sc := { s.sc with window := w } }
    else { s with sc := { s.sc with window := w } }) := ⟨_, rfl⟩
  have ht : t = postAbove s.sc.pub.above (evalAbove u) := by
    show scWindow false s = _
    rw [hu]
    unfold scWindow
    simp only [Bool.false_eq_true, false_or]
    rfl
  have h2 : u.sc = { s.sc with window := w } ∧ u.time = s.time := by
    rw [hu]; split <;> exact ⟨rfl, rfl⟩
  have h2lp : u.lp = offerAll (if w.gHigh ≠ s.sc.window.gHigh ∨ w.reverseCap ≠ s.sc.window.reverseCap then
      [noticeOf s .windowChanged 1 .sc w.gHigh w.reverseCap] else []) s.lp := by
    rw [hu]
    split <;> rfl
  have hsc : (evalAbove u).sc.pub.above = aboveWindow s.sc.pub w.gHigh ∧ (evalAbove u).sc.pub.dir = s.sc.pub.dir
      ∧ (evalAbove u).sc.pub.gear = s.sc.pub.gear ∧ (evalAbove u).sc.window = w := by
    unfold evalAbove
    simp only [scPublish_pub, h2.1]
    simp
  obtain ⟨a1, a2, a3, a4⟩ := hsc
  rw [ht]
  refine ⟨?_, by simp [a4], by simp [a1], by simp [a2], by simp [a3]⟩
  show (postAbove s.sc.pub.above (evalAbove u)).lp = offerAll (_ ++ _) s.lp
  rw [offerAll_append, ← h2lp]
  unfold postAbove
  rw [a1, a3, a4]
  by_cases h : s.sc.pub.dir = .f ∧ w.gHigh < s.sc.pub.gear ∧ s.sc.pub.above = false
  · rw [if_pos, if_pos h]
    · simp only [post, postAt, offerAll, noticeOf, kindSource, kindLevel, evalAbove_same, List.foldl_cons, List.foldl_nil,
        h2.2]
      rfl
    · simp [aboveWindow, h.1, h.2.1, h.2.2]
  · rw [if_neg, if_neg h]
    · simp [offerAll]
    · simp only [aboveWindow, Bool.and_eq_true, decide_eq_true_eq, Bool.not_eq_true'] at *
      rintro ⟨h3, h4⟩
      exact h ⟨h3.1, h3.2, h4⟩

/-! ### Reports -/

/-- A start report of an entry that caps no gear window posts its notice (R197). -/
theorem ftStart_quiet_eq (i : Fin 47) (d : Nat) (s : State) (h : isTrailerEntry i = false) :
    ftStart i d s = { s with lp := offerAll (raisedNote s i d) s.lp, ft := (ftStart i d s).ft } := by
  unfold ftStart raisedNote
  dsimp only
  split <;> rename_i h'
  · rw [if_pos h']; rfl
  · rw [if_neg (by rw [h']; decide), ftTell_quiet i _ h]; rfl
  · rw [if_neg (by rw [h']; decide), ftTell_quiet i _ h]; rfl

/-- An end report of an entry that caps no gear window (R198). -/
theorem ftEnd_quiet_eq (i : Fin 47) (s : State) (h : isTrailerEntry i = false) :
    ftEnd i s = { s with
      lp := offerAll (endedNote s i) s.lp
      ft := if (s.ft[i]).state = .active then s.ft.set i { s.ft[i] with state := .latched, last := s.time } else s.ft } := by
  unfold ftEnd endedNote
  dsimp only
  split <;> rename_i h'
  · rw [if_pos h', if_pos h', ftTell_quiet i _ h]; rfl
  · rw [if_neg (by rw [h']; decide), if_neg (by rw [h']; decide)]; rfl
  · rw [if_neg (by rw [h']; decide), if_neg (by rw [h']; decide)]; rfl

/-- A trailer entry that is not CLEAR stands. -/
theorem trailerFault_of {ft : Vector FaultEntry 47} {i : Fin 47} (hi : isTrailerEntry i = true) (h : (ft[i]).state ≠ .clear) :
    trailerFault ft = true := by
  rw [trailerFault_eq]
  simp only [isTrailerEntry, decide_eq_true_eq] at hi
  rcases hi with rfl | rfl | rfl
  · exact decide_eq_true (.inl h)
  · exact decide_eq_true (.inr (.inl h))
  · exact decide_eq_true (.inr (.inr h))

/-- Telling the SC of a trailer entry in RUN is the gear window (R106). -/
theorem ftTell_trailer {i : Fin 47} (hi : isTrailerEntry i = true) {s : State} (hr : s.inRun = true) :
    ftTell i s = scWindow false s := by
  unfold ftTell
  rw [if_pos (by rw [hi]; exact hr)]

/-- A start report of a trailer entry in RUN posts its notice and then those of the window it caps (R106, R197). -/
theorem ftStart_trailer {i : Fin 47} (hi : isTrailerEntry i = true) (d : Nat) {s : State} (hr : s.inRun = true)
    (ha : (s.ft[i]).state ≠ .active) :
    (ftStart i d s).lp = offerAll (raisedNote s i d ++ windowNotes s s.tbc.pub true) s.lp := by
  have key : ∀ e : FaultEntry, e.state = .active →
      (ftTell i (postAt .faultRaised (faultLevel i) i.val d (modFault i e s))).lp
        = offerAll (raisedNote s i d ++ windowNotes s s.tbc.pub true) s.lp := by
    intro e he
    have hf : trailerFault (postAt .faultRaised (faultLevel i) i.val d (modFault i e s)).ft = true :=
      trailerFault_of hi (by simp [he])
    rw [ftTell_trailer (s := postAt _ _ _ _ (modFault i e s)) hi hr, (scWindow_does _).1, hf, offerAll_append]
    unfold raisedNote
    rw [if_neg ha]
    rfl
  unfold ftStart
  dsimp only
  split
  · contradiction
  all_goals exact key _ rfl

/-- An end report of a trailer entry in RUN posts its notice and then those of the window it goes on capping (R106, R198). -/
theorem ftEnd_trailer {i : Fin 47} (hi : isTrailerEntry i = true) {s : State} (hr : s.inRun = true)
    (ha : (s.ft[i]).state = .active) :
    (ftEnd i s).lp = offerAll (endedNote s i ++ windowNotes s s.tbc.pub true) s.lp := by
  have hf : trailerFault (post .faultEnded i.val (s.ft[i]).count
      (modFault i { s.ft[i] with state := .latched, last := s.time } s)).ft = true :=
    trailerFault_of hi (by simp)
  unfold ftEnd
  simp only [ha]
  rw [ftTell_trailer (s := post _ _ _ (modFault i _ s)) hi hr, (scWindow_does _).1, hf, offerAll_append]
  unfold endedNote
  rw [if_pos ha]
  rfl

/-! ### The clutches and ABORTING -/

/-- A write of the clutches leaves the other channels. -/
theorem writeClutches_other (v : Vector Nat 9) (s : State) (j : Fin 14) (hj : 9 ≤ j.val) :
    (writeClutches v s).vo.chan[j] = s.vo.chan[j] := by
  unfold writeClutches
  generalize List.finRange 9 = l
  induction l generalizing s with
  | nil => rfl
  | cons c l ih =>
    rw [List.foldl_cons, ih, writeChan_other]
    intro h
    have := congrArg Fin.val h
    simp only [clutchChan] at this
    have := c.isLt
    omega

/-- A write of the clutches writes each of them, cut at 250 (R81). -/
theorem writeClutches_command (v : Vector Nat 9) (s : State) (k : Fin 9) :
    ((writeClutches v s).vo.chan[clutchChan k]).command = min v[k] 250 := by
  unfold writeClutches
  have key : ∀ (l : List (Fin 9)) (s : State), (k ∈ l ∨ (s.vo.chan[clutchChan k]).command = min v[k] 250) →
      ((l.foldl (fun s c => writeChan (clutchChan c) (min v[c] Config.pClutchMax) s) s).vo.chan[clutchChan k]).command
        = min v[k] 250 := by
    intro l
    induction l with
    | nil => intro s h; simpa using h
    | cons c l ih =>
      intro s h
      rw [List.foldl_cons]
      apply ih
      by_cases hc : c = k
      · right
        subst hc
        rw [writeChan_command]
        have h1 : chanMax (clutchChan c) = 250 := by
          clear h ih
          revert c; decide
        rw [h1]
        show min (min v[c] 250) 250 = _
        omega
      · rcases h with h | h
        · left
          rcases List.mem_cons.1 h with h | h
          · exact absurd h.symm hc
          · exact h
        · right
          rw [writeChan_other]
          · exact h
          · intro e
            apply hc
            have := congrArg Fin.val e
            simp only [clutchChan] at this
            exact Fin.ext this
  exact key _ s (.inl (List.mem_finRange k))

/-- ABORTING: neutral, no shift, no timer but the dump time, every clutch at 0 (R130). -/
theorem enterAborting_eq (s : State) (h : s.sc.pub.state ≠ .aborting) :
    ∃ vo tbc u, enterAborting s = { s with
        vo := vo, tbc := tbc, undelivered := u
        sc := { s.sc with
          shift := none, modDue := none, supplyWait := none, brakeWait := none, dump := some (s.time + 100000)
          pub := { time := s.time, state := .aborting } } }
      ∧ (∀ k : Fin 9, (vo.chan[clutchChan k]).command = 0)
      ∧ (∀ j : Fin 14, 9 ≤ j.val → j.val < 12 → vo.chan[j] = s.vo.chan[j]) := by
  unfold enterAborting
  extract_lets s1 sc s2
  generalize hd : ({ s2.sc.pub with
    state := .aborting, dir := .n, gear := 0, kind := .none, sense := .none, phase := .none, step := 0, tgtDir := .n
    tgtGear := 0 } : Driveline) = d
  have hs1 : s1.sc = s.sc ∧ s1.time = s.time := by simp [s1]
  have e1 : (scPublish d s2).sc = { s2.sc with pub := { d with time := s.time } } := by
    rw [scPublish_pub]
    rw [if_neg]
    · show { s2.sc with pub := { d with time := s1.time } } = _
      rw [hs1.2]
    · rw [← hd]
      intro e
      have : ShiftState.aborting = s2.sc.pub.state := congrArg Driveline.state e
      have hp2 : s2.sc.pub = s.sc.pub := by
        show s1.sc.pub = _
        rw [hs1.1]
      rw [hp2] at this
      exact h this.symm
  have e2 : (evalAbove (scPublish d s2)).sc = { s2.sc with pub := { time := s.time, state := .aborting } } := by
    unfold evalAbove
    rw [scPublish_pub, e1]
    dsimp only
    have ht : (scPublish d s2).time = s.time := by simp [s2, hs1.2]
    rw [ht]
    rw [← hd]
    simp [aboveWindow]
  have hv : ∀ (u : State) (d : Driveline) (j : Fin 14), j.val < 12 → (scPublish d u).vo.chan[j] = u.vo.chan[j] := by
    intro u d j hj
    unfold scPublish
    split
    · rfl
    · unfold tbcOnDriveline
      rw [tbcFinish_other hj]
      simp
  refine ⟨(evalAbove (scPublish d s2)).vo, (evalAbove (scPublish d s2)).tbc, (evalAbove (scPublish d s2)).undelivered,
    ?_, fun k => ?_, fun j h1 h2 => ?_⟩
  rotate_left 1
  · unfold evalAbove
    rw [hv _ _ _ (by have := k.isLt; show k.val < 12; omega), hv _ _ _ (by have := k.isLt; show k.val < 12; omega)]
    show (s1.vo.chan[clutchChan k]).command = 0
    simp only [s1]
    rw [writeClutches_command]
    simp
  · unfold evalAbove
    rw [hv _ _ _ h2, hv _ _ _ h2]
    show s1.vo.chan[j] = _
    simp only [s1]
    rw [writeClutches_other _ _ _ h1]
  · have hs2 : s2.sc = { s.sc with
        shift := none, modDue := none, supplyWait := none, brakeWait := none, dump := some (s.time + 100000) } := by
      show { s1.sc with
        shift := none, modDue := none, supplyWait := none, brakeWait := none, dump := some (s1.time + 100000) } = _
      rw [hs1.1, hs1.2]
    rw [hs2] at e2
    have q1 : (evalAbove (scPublish d s2)).time = s.time := by simp [s2, hs1.2]
    have q2 : (evalAbove (scPublish d s2)).pending = s.pending := by simp [s2, s1]
    have q3 : (evalAbove (scPublish d s2)).lp = s.lp := by simp [s2, s1]
    have q4 : (evalAbove (scPublish d s2)).pc = s.pc := by simp [s2, s1]
    have q5 : (evalAbove (scPublish d s2)).mu = s.mu := by simp [s2, s1]
    have q6 : (evalAbove (scPublish d s2)).me = s.me := by simp [s2, s1]
    have q7 : (evalAbove (scPublish d s2)).fdm = s.fdm := by simp [s2, s1]
    have q8 : (evalAbove (scPublish d s2)).hc = s.hc := by simp [s2, s1]
    have q9 : (evalAbove (scPublish d s2)).ft = s.ft := by simp [s2, s1]
    generalize evalAbove (scPublish d s2) = u at e2 q1 q2 q3 q4 q5 q6 q7 q8 q9 ⊢
    cases u
    simp only at e2 q1 q2 q3 q4 q5 q6 q7 q8 q9
    rw [e2, q1, q2, q3, q4, q5, q6, q7, q8, q9]

/-! ### The abort of a line check -/

/-- The supplementary line at the end of a line check (R185, R193). -/
theorem suppAfterCheck_eq (b : BrakeRecord) : suppEntered { b with check := .idle } = suppAfterCheck b := by
  unfold suppEntered suppAfterCheck BrakeRecord.vents BrakeRecord.checking
  simp

/-- A running line check is aborted, and with none running nothing changes (R192). -/
theorem checkAbort_eq (s : State) : checkAbort s = { s with
    lp := offerAll (if s.tbc.cur.check = .idle then [] else [noticeOf s .lineCheckResult 1 .tbc 2 0]) s.lp
    tbc := { s.tbc with
      cur := checkAborted s.tbc.cur, stage := if s.tbc.cur.check = .idle then s.tbc.stage else none } } := by
  unfold checkAbort checkAborted
  by_cases h : s.tbc.cur.check = .idle
  · rw [if_neg (by simp [BrakeRecord.checking, h])]; simp [h, offerAll]
  · rw [if_pos (by simp [BrakeRecord.checking, h]), if_neg h, if_neg h, if_neg h, ← suppAfterCheck_eq]
    rfl

end Sys2Proof.Machine
end

