-- ==== Sys2Proof/Tests/Slice0.lean ====
section
/-! SUPPORT. The model's own tests: the well-formedness checks refuse an ill-formed term each, one-step tests whose
expected values are the manual's worked examples, and for each obligation with hypotheses a concrete case that meets
them. -/

namespace Sys2Proof.Tests

open Sys2Proof Sys2Proof.Machine

set_option maxRecDepth 100000

/-! ### Helpers -/

/-- A request frame with the body bytes given, padded with zeros to 27. -/
def rq (body : List Nat) : Request :=
  { tag := 7, len := BitVec.ofNat 8 body.length, body := padTo 27 (body.map (BitVec.ofNat 8)) }

/-- A 16-bit value as two body bytes. -/
def w2 (n : Nat) : List Nat := [n / 256, n % 256]

/-- The state after a command. -/
def after (c : Instr) (s : State) : State :=
  match exec c s with
  | .next t => t
  | .fault _ => s
  | .refused _ => s

/-- The status code of the reply in the slot and its first `n` body bytes. -/
def replyOf (n : Nat) (s : State) : Nat × List Nat := (s.lp.slot.status.toNat, (s.lp.slot.body.take n).map BitVec.toNat)

/-- The kinds and values of the notices in the queue. -/
def notes (s : State) : List (NoticeKind × Nat × Nat) := s.lp.notices.map fun n => (n.kind, n.v1.toNat, n.v2.toNat)

/-- A state in RUN at a time in ms, the link UP. -/
def runAt (ms : Nat) : State := { State.reset with time := ms * 1000, pc := { State.reset.pc with part := .run } }

/-- One channel of a state with its items set. -/
def withChan (i : Fin 14) (ch : Chan) (s : State) : State := { s with vo := { s.vo with chan := s.vo.chan.set i ch } }

/-- One role of the snapshot with a valid value. -/
def withRole (r : Fin 16) (v : Int) (s : State) : State :=
  { s with mu := { s.mu with snapshot := { s.mu.snapshot with
    entries := s.mu.snapshot.entries.set r ⟨true, v, true, 0⟩ } } }

/-- One fault entry in a state. -/
def withFault (i : Fin 47) (st : EntryState) (s : State) : State := { s with ft := s.ft.set i ⟨st, 1, 5, 6, 0⟩ }

/-- A gear of the example gear table (chapter 06). -/
def gearOn (speed : Fin 4) (range : Fin 3) (ratio p : Nat) : GearEntry := ⟨true, true, speed, range, ratio, p⟩

/-- The example gear table (chapter 06). -/
def gears : Vector GearEntry 12 :=
  #v[gearOn 0 0 24000 180, gearOn 1 0 20000 180, gearOn 2 0 16800 180, gearOn 3 0 14000 180, gearOn 0 1 11600 190,
    gearOn 1 1 9700 190, gearOn 2 1 8100 190, gearOn 3 1 6800 190, gearOn 0 2 5600 200, gearOn 1 2 4700 200,
    gearOn 2 2 3900 200, gearOn 3 2 3250 200]

/-- An action of a profile step. -/
def act (t : ActionType) (p : Nat) : Action := ⟨t, p⟩

/-- The example profile of a SPEED_DOWN shift (chapter 06). -/
def profile : List ProfileStep :=
  [⟨.fill, .filled, 250, act .fill 40, act .ramp 120, act .hold 0, act .hold 0⟩,
    ⟨.torque, .time, 120, act .ramp 160, act .ramp 30, act .hold 0, act .hold 0⟩,
    ⟨.inertia, .synced, 600, act .ramp 200, act .dump 0, act .hold 0, act .hold 0⟩,
    ⟨.lock, .time, 80, act .step 230, act .hold 0, act .hold 0, act .hold 0⟩]

/-- The SC with the example tables, every profile map entry at profile 2, and the window open. -/
def tables : ShiftCtl :=
  { gears := gears, profiles := (Vector.replicate 8 []).set 2 profile, map := .replicate 7 (some 2), kLoad := 300
    window := { gHigh := 12, reverseCap := 6, basis := .field } }

/-- In RUN with the example tables, the supply NORMAL, the driveline record as given. -/
def driveAt (ms : Nat) (d : Driveline) : State :=
  { runAt ms with sc := { tables with pub := d }, vo := { (runAt ms).vo with supply := .normal } }

/-- The running downshift F6 to F5 of the worked sequence of section 7.10, in a step with its entry. -/
def downshift (step entry applied : Nat) (p : Vector Nat 9) : ShiftRun :=
  ⟨.f, 6, .f, 5, some 2, some 0, some 1, none, none, step, entry, applied, p, 0⟩

/-- The worked downshift at `ms` with a modulation update due. -/
def shiftingAt (ms : Nat) (run : ShiftRun) (ph : Phase) : State :=
  let s := driveAt ms ⟨0, .f, 6, .stepping, .speed, .down, ph, run.step, .f, 5, false⟩
  { s with
    sc := { s.sc with shift := some run, modDue := some (ms * 1000) }
    me := { s.me with engine := { s.me.engine with torque := 700, oil := 50 } }
    mu := { s.mu with draft := ⟨some (2100, true), some 2100⟩ } }

/-! ### The well-formedness checks -/

theorem test_wf_refuses :
    (Instr.poll { rq [] with body := [] }).wf = false
      ∧ (Instr.tornFrame (List.replicate 256 true)).wf = false
      ∧ (Instr.crcFailure 1 (rq []) (crc16 (frameHead 1 (rq [])))).wf = false
      ∧ (Instr.crcFailure 1 { rq [] with body := [1] } 0).wf = false
      ∧ (Instr.unknownRequest 1 (rq [])).wf = false ∧ (Instr.unknownRequest 40 (rq [])).wf = false
      ∧ (Instr.unknownRequest 41 { rq [] with body := [1] }).wf = false
      ∧ (Instr.cfgProfileStepWrite (rq [0, 0, 1])).wf = false ∧ (Instr.cfgProfileStepTruncate (rq [0, 0, 0])).wf = false
      ∧ (Instr.overcurrentTrip .s1 2400).wf = false := by
  decide

theorem test_wf_accepts :
    (Instr.poll (rq [])).wf = true ∧ (Instr.tornFrame (List.replicate 160 true)).wf = true
      ∧ (Instr.crcFailure 1 (rq []) 0).wf = true ∧ (Instr.unknownRequest 0 (rq [])).wf = true
      ∧ (Instr.unknownRequest 41 (rq [])).wf = true ∧ (Instr.cfgProfileStepTruncate (rq [0, 0, 1])).wf = true
      ∧ (Instr.overcurrentTrip .s1 2401).wf = true := by
  decide

theorem test_word_spells_nothing : decodeTableWord 8 1 = none ∧ State.reset.withFetchWord 8 1 = State.reset :=
  ⟨rfl, rfl⟩

/-! ### Worked examples of the manual -/

/-- The CRC's check value (R4). -/
theorem test_crc_check_string :
    crc16 [0x31, 0x32, 0x33, 0x34, 0x35, 0x36, 0x37, 0x38, 0x39] = 0x29B1 := by
  decide

/-- Section 1.7: a torn frame of 20 bytes keeps the slot; a CRC failure answers LINK_ERROR with its tag, reason 1. -/
theorem test_torn_frame_keeps_the_slot :
    let t := after (.tornFrame (List.replicate 160 false)) State.reset
    (t.lp.slot = State.reset.lp.slot ∧ t.lp.bitCount = 160 ∧ t.lp.dataOut.length = 160) := by
  decide

theorem test_crc_failure_answers_link_error :
    let t := after (.crcFailure 1 (rq []) 0) (runAt 5)
    (t.lp.slot.kind.toNat, t.lp.slot.tag.toNat, replyOf 1 t, t.lp.supervision) = (255, 7, (12, [1]), none) := by
  decide

/-- R19 and section 1.7: the flag that a STATUS reply carries is cleared at the POLL and at the CRC failure that deliver it, and
kept at a torn frame, under a set marker, and where the slot holds a reply without it. -/
theorem test_status_reply_delivers_the_flag :
    let s (carried : Nat) (marker : Bool) : State := { State.reset with lp := {
      slot := mkReply 2 10 0 4 ([0, 0, 1, 0, 200, 1, 0, carried].map (BitVec.ofNat 8)), lost := true, lostMarker := marker } }
    let lost (c : Instr) (carried : Nat) (marker : Bool) := (after c (s carried marker)).lp.lost
    lost (.poll (rq [])) 1 false = false ∧ lost (.crcFailure 1 (rq []) 0) 1 false = false
      ∧ lost (.unknownRequest 41 (rq [])) 1 false = false ∧ lost (.tornFrame (List.replicate 160 true)) 1 false = true
      ∧ lost (.poll (rq [])) 1 true = true ∧ lost (.poll (rq [])) 0 false = true := by
  decide

/-- R7, R22 and R23: an unknown request in the frame that finds the link LOST makes it RESTORED_WAIT and restarts the timer. -/
theorem test_unknown_request_restores_the_link :
    let s := runAt 300
    let t := after (.unknownRequest 41 (rq [])) { s with lp := { s.lp with link := .lost, lossTime := 200000 } }
    (t.lp.link, t.lp.supervision, t.lp.slot.kind.toNat, replyOf 0 t) = (.restoredWait, some 500000, 41, (11, []))
      ∧ (notes t).head? = some (.linkRestored, 100, 0) := by
  decide

/-- Section 1.7, full notice queue: a level-1 notice replaces the oldest of level 0, a level-0 one is discarded. -/
def fullQueue : List Notice :=
  [⟨.supplyChanged, 2, .vo, 0, 0, 0⟩, ⟨.aboveWindow, 2, .sc, 0, 0, 0⟩, ⟨.hitchShock, 1, .hc, 0, 0, 0⟩,
    ⟨.frontChanged, 0, .fdm, 0, 0, 0⟩, ⟨.windowChanged, 1, .sc, 0, 0, 0⟩, ⟨.windowChanged, 1, .sc, 0, 1, 0⟩,
    ⟨.windowChanged, 1, .sc, 0, 2, 0⟩] ++ List.replicate 9 ⟨.hitchState, 0, .hc, 0, 0, 0⟩

theorem test_full_queue_replaces_the_oldest_lowest :
    let lp : LinkPort := { notices := fullQueue, attn := true }
    let t := offerNotice ⟨.shiftClamped, 1, .sc, 0, 0, 0⟩ lp
    let u := offerNotice ⟨.hitchState, 0, .hc, 0, 9, 0⟩ t
    t.notices.length = 16 ∧ (t.notices.map (·.kind)).count .frontChanged = 0
      ∧ t.notices.getLast?.map (·.kind) = some .shiftClamped ∧ t.lost = true ∧ u = t := by
  decide

/-- Section 5.2: drive currents from commands. -/
theorem test_drive_currents :
    ([0, 40, 193, 250].map (characCurrent .clutch ⟨300, 80, 1400⟩), [267, 1].map (characCurrent .hitch ⟨250, 1250, 0⟩),
      [1500, 2000].map (characCurrent .clutch ⟨150, 60, 1200⟩), characCurrent .onOff ⟨900, 0, 0⟩ 1) =
      ([0, 332, 454, 500], [517, 251], [1050, 1200], 900) := by
  decide

/-- Section 5.3: the open raise valve, found at the sample 50 ms after its current fell. -/
theorem test_open_load_forces :
    let ch : Chan :=
      { charac := some ⟨250, 1250, 0⟩, command := 300, drive := 550, openHold := some 2000000, diag := some 2050000 }
    let s := withChan chRaise ch (runAt 2050)
    let t := after (.diagnosticSample .raise 10 .openLoad) s
    ((t.vo.chan[chRaise]).forced, (t.vo.chan[chRaise]).drive, (t.ft[fOutput chRaise]).state, t.hc.state) =
      (true, 0, .active, .stopped) := by
  decide

theorem test_off_state_latches :
    let ch : Chan := { forced := true, offHold := some 2401000, diag := some 2451000 }
    let s := withFault (fOutput chRaise) .active (withChan chRaise ch (runAt 2451))
    ((after (.diagnosticSample .raise 0 .healthy) s).ft[fOutput chRaise]).state = .latched := by
  decide

/-- Section 5.4: the supply's own timer runs out at 3 150 while stale. -/
theorem test_supply_lost_while_stale :
    let s := withRole roleSupply 160 (withFault fScanStale .active (runAt 3150))
    let s := { s with vo := { s.vo with supply := .normal, supplyHold := some 3050000 } }
    let t := after .supplyQualificationExpiry s
    t.vo.supply = .low ∧ t.fdm.causeSupply = true ∧ t.hc.causeSupply = true
      ∧ (notes t).take 2 = [(.supplyChanged, 1, 160), (.faultRaised, 37, 160)] := by
  decide

/-- Section 4.2: speeds from one set of periods. -/
def pulses : Vector Pulse 4 :=
  #v[⟨true, 40, 1, true, .running, 10000, 750, none⟩, ⟨true, 60, 5000, true, .running, 10000, 2000, none⟩,
    ⟨true, 60, 4200, true, .running, 10000, 1600, none⟩, ⟨true, 1, 2000, true, .running, 10000, 975, none⟩]

theorem test_motion_worked_speeds :
    let t := after .motionUpdate { runAt 10 with mu := { pulse := pulses }, me := { updateDue := some 10000 } }
    (t.me.pub.vR, t.me.pub.nOut, t.me.pub.nIn, t.me.pub.vF, t.me.pub.vG, t.me.pub.lead, t.me.ring) =
      (2500, 500, 2000, 2625, 2051, 1050, [179]) := by
  decide

/-- Section 4.3: the slip of the ring at 1 040. -/
theorem test_slip_ring_mean : slipOf [180, 178, 189, 0, 200] = (149, true) ∧ slipOf [180, 178, 189] = (0, false) := by
  decide

/-- R71 and R72: in F6 at n_out 500 a still input shaft starts the hold of INPUT, keeps it to 499.999 ms, and is suspect at
500 ms with the hold discarded; an update with an edge period discards a hold (R68: each takes a slip sample and its time). -/
theorem test_input_hold_runs :
    let turning (ppr k t : Nat) : Pulse := ⟨true, ppr, k, true, .running, 600000, t, none⟩
    let s (inp : PulseState) (hold : Option Nat) : State :=
      { driveAt 600 { dir := .f, gear := 6 } with
        mu := { pulse := #v[⟨true, 40, 1, true, inp, 600000, 750, none⟩, turning 60 5000 2000, turning 60 4200 1600,
          turning 1 2000 975] }
        me := { updateDue := some 600000, inputHold := hold } }
    let got (inp : PulseState) (hold : Option Nat) :=
      let t := after .motionUpdate (s inp hold)
      (t.me.inputHold, t.me.pub.inputSuspect, t.me.lastSample)
    got .stopped none = (some 600000, false, some 600000) ∧ got .stopped (some 100001) = (some 100001, false, some 600000)
      ∧ got .stopped (some 100000) = (none, true, some 600000) ∧ got .running (some 100001) = (none, false, some 600000) := by
  decide

/-- START leaves the want KEEP (R137) and a stale scan keeps the brake record's values, not the snapshot's (R178). -/
theorem test_start_want_and_stale_values :
    let s : State := withRole roleCtrl 700 { runAt 100 with mu := { stale := some 100000 } }
    ((startPart State.reset).fdm.want, (after .scanStaleExpiry s).tbc.pub.ctrl, (after .scanStaleExpiry s).tbc.pub.ctrlValid)
      = (.keep, 0, false) := by
  decide

/-- Section 3.4: a hitch position out of range keeps the held value with its age, and reports at the third run. -/
theorem test_position_sensor_fails :
    let m : RoleMem := ⟨some (468, 1000000), some .low, 2⟩
    roleAfter rolePos ⟨400, 300⟩ 1000000 (some 2000) {} = (⟨true, 468, true, 0⟩, ⟨some (468, 1000000), none, 0⟩)
      ∧ roleAfter rolePos ⟨400, 300⟩ 1018000 (some 52) m =
        (⟨true, 468, false, 18⟩, ⟨some (468, 1000000), some .low, 3⟩)
      ∧ scaled rolePos ⟨400, 300⟩ 3850 = 1000 := by
  decide

/-- Section 3.1: the settled pins of a positive and a negative phase give D 2 100. -/
theorem test_chopped_draft :
    let s : State := { runAt 14 with mu := {
      cfg := { chop := true, chopDelay := 2 }
      dc := { running := true, negative := true, settled := 2, ends := [14000], prev := some (1030, 1080) } } }
    (after (.conversionEnd (BitVec.ofInt 13 (-970)) (BitVec.ofInt 13 (-1120))) s).mu.draft =
      ⟨some (2100, true), some 2100⟩ := by
  decide

/-- Section 3.2: two samples after a reversal are ignored, the fourth over the threshold shocks. -/
theorem test_shock_across_reversal :
    let foc (n i : Nat) : State := { runAt 8 with mu := { (runAt 8).mu with
      cfg := { dShock := 3000 }, foc := { running := true, count := n, ignored := i, sampleDue := 7000 } } }
    ((after (.fastSample 1600 1600) (foc 2 2)).mu.foc.count, (after (.fastSample 1600 1600) (foc 2 0)).mu.foc.count,
      (after (.fastSample 1600 1600) (foc 3 0)).mu.foc.count) = (2, 3, 0) := by
  decide

/-- Section 7.10: S1 and S2 in step 0 at 10 100 and in step 1 at 10 175, load-compensated. -/
theorem test_downshift_ramps :
    let p : Vector Nat 9 := #v[0, 190, 0, 0, 0, 190, 0, 190, 0]
    let q : Vector Nat 9 := #v[40, 154, 0, 0, 0, 190, 0, 190, 0]
    let s := withRole 0 20 (shiftingAt 10100 (downshift 0 10000000 250 p) .fill)
    let t := after .modulationUpdate s
    let u := after .modulationUpdate (shiftingAt 10175 (downshift 1 10130000 120 q) .torque)
    ((t.vo.chan[(0 : Fin 14)]).command, (t.vo.chan[(1 : Fin 14)]).command, (u.vo.chan[(0 : Fin 14)]).command,
      (u.vo.chan[(1 : Fin 14)]).command, (u.vo.chan[(7 : Fin 14)]).command) = (40, 162, 97, 110, 190) := by
  decide

/-- Section 7.10: step 3 ends at 10 540 and the shift is complete in F5. -/
theorem test_downshift_completes :
    let t := after .modulationUpdate (shiftingAt 10540 (downshift 3 10460000 80 (.replicate 9 210)) .lock)
    t.sc.pub.state = .idle ∧ t.sc.pub.gear = 5 ∧ (t.vo.chan[(0 : Fin 14)]).command = 190
      ∧ (t.vo.chan[(1 : Fin 14)]).command = 0 ∧ notes t = [(.shiftDone, 5, 0)] := by
  decide

/-- Section 7.10: the queued F4 is dropped for OVERSPEED at n_out 180. -/
theorem test_overspeed_drops :
    let s := driveAt 10540 { dir := .f, gear := 5, state := .pending, tgtDir := .f, tgtGear := 4 }
    let s := { s with sc := { s.sc with queue := [⟨.gear, 4, .f, 0⟩] }, me := { s.me with pub := { nOut := 180 } } }
    let t := after .shiftStart s
    (t.sc.pub.state, t.sc.pub.gear, notes t) = (.idle, 5, [(.shiftDropped, 4, 2)]) := by
  decide

/-- Section 7.10: a SHIFT RELATIVE -1 in F6 is answered OK_QUEUED 5, 5, F, 1. -/
theorem test_shift_relative_is_queued :
    let t := after (.shift (rq [1, 255, 0])) (driveAt 10000 { dir := .f, gear := 6 })
    (replyOf 4 t, t.sc.pub.state, t.sc.pub.kind, t.sc.pub.sense, t.sc.queue) =
      ((3, [5, 5, 0, 1]), .stepping, .speed, .down, []) := by
  decide +kernel

/-- Section 6.4: the deviation caps the window at 7 and sets above_window in F11. -/
theorem test_window_capped :
    let s := driveAt 1 { dir := .f, gear := 11 }
    let s := { s with
      pc := { s.pc with limits := { gMaxUnverified := 7, gMaxField := 9 } },
      tbc := { s.tbc with pub := { mode := .road, present := true, verified := true } } }
    let t := ftStart fCtrlDeviation 0 s
    (t.sc.window.gHigh, t.sc.window.faultCap, t.sc.pub.above, notes t) =
      (7, true, true, [(.faultRaised, 43, 0), (.windowChanged, 7, 6), (.aboveWindow, 11, 7)]) := by
  decide

/-- At or above V_check with the dwell over, want ENGAGE enters ENGAGE_WAIT with its timer; RELEASE leaves it (R146, R147). -/
theorem test_front_wait_starts_and_ends :
    let s := runAt 42010
    let s := { s with
      fdm := { s.fdm with state := .released, mode := .on, causeConfig := false }
      me := { s.me with pub := { vR := 1500 } } }
    let t := fdmEvaluate true s
    let u := fdmEvaluate false { t with fdm := { t.fdm with mode := .off } }
    (t.fdm.state, t.fdm.waitStart, t.fdm.wait, u.fdm.state, u.fdm.waitStart, u.fdm.wait) =
      (.engageWait, 42010000, some 44010000, .released, 0, none) := by
  decide

/-- Section 8.6: the wait expires in mode ON at λ 1 250. -/
theorem test_front_wait_expires :
    let s := runAt 42010
    let s := { s with
      fdm := { s.fdm with state := .engageWait, mode := .on, wait := some 42010000 }
      me := { s.me with pub := { lead := 1250, leadValid := true } } }
    let t := after .frontWaitExpiry s
    (t.fdm.state, t.fdm.changeTime, notes t) =
      (.released, 42010000, [(.frontWaitExpired, 1250, 0), (.frontChanged, 0, 2)]) := by
  decide

/-- The hitch of the worked case of section 9.4. -/
def hitch : Hitch :=
  { state := .control, lever := 400, mix := 60, dropRate := 150, slipLimiting := true, pos := 380, posValid := true
    draft := 2100, draftValid := true
    cfg := { dMax := 3000, db := 10, gain := 24, vMax := 800, vDrop := 300, pUp := 850, sLim := 150 } }

/-- Section 9.4: one pass gives RAISE 267; with the term frozen at 100 it gives 265; a lowering pass gives LOWER 150. -/
theorem test_control_law :
    let m : MotionRecord := { slip := 180, slipValid := true }
    let frozen : Hitch := { hitch with pos := 382, draft := 2700, heldDraft := some 100 }
    let low : Hitch := { hitch with pos := 440, draft := 1200 }
    (lawCommands (lawError (draftTerm false true hitch).1 m hitch) 850 hitch,
      lawCommands (lawError (draftTerm true true frozen).1 m frozen) 850 frozen,
      lawCommands (lawError (draftTerm false true low).1 {} low) 850 low) = ((267, 0), (265, 0), (0, 150)) := by
  decide

/-- While stale the record takes a valid result as valid, and the pass goes by position alone: error 20, RAISE 15 (R159, R162). -/
theorem test_stale_draft_result :
    let s := withFault fScanStale .active { runAt 2000 with hc := { hitch with slipLimiting := false } }
    let t := hcDraftResult 2700 true s
    (t.hc.draft, t.hc.draftValid, t.hc.heldDraft, t.hc.raiseCmd) = (2700, true, none, 15) := by
  decide

/-- Section 9.9: the lever matches at 12 500 and the hold is released at 12 000. -/
theorem test_lever_matches :
    let s := { runAt 12500 with hc := { hitch with state := .lockedOut, pos := 615 } }
    let t := after (.hitchSet (rq (w2 610 ++ [60] ++ w2 150 ++ [1]))) s
    let u := after (.hitchSet (rq (w2 400 ++ [60] ++ w2 150 ++ [1]))) s
    ((replyOf 8 t).1, (replyOf 8 t).2.drop 6, t.hc.state, (replyOf 8 u).2.drop 6, u.hc.state) =
      (0, [1, 1], .control, [0, 0], .lockedOut) := by
  decide

theorem test_hitch_release :
    let s := { runAt 12000 with hc := { hitch with state := .held, ret := .control, causeRequest := true } }
    let t := after (.hitchRelease (rq [])) s
    (replyOf 1 t, t.hc.state, notes t) = ((0, [0]), .lockedOut, [(.hitchState, 0, 5)]) := by
  decide

/-- Section 10.9: the curve gives 360 at 200 and 816 at 420. -/
theorem test_brake_curve :
    ([20, 50, 200, 420, 900].map (brakeCurve [(50, 0), (300, 600), (800, 1500)])) = [0, 0, 360, 816, 1500] := by
  decide

/-- Section 10.9: the line check passes at its stage timer. -/
theorem test_line_check_passes :
    let s := runAt 62414
    let s := { s with tbc := { s.tbc with
      stage := some 62414000, reference := 905
      cur := { mode := .field, present := true, check := .stage2, supp := .charged, pCmd := 1000 } } }
    let t := after .lineCheckStageExpiry s
    (t.tbc.pub.verified, t.tbc.pub.check, t.tbc.pub.pCmd, (notes t).head?) =
      (true, .idle, 0, some (.lineCheckResult, 0, 0)) := by
  decide

/-- A second occurrence keeps the first time and raises the count (R197). -/
theorem test_fault_second_occurrence :
    let t := ftStart fEngineStale 3 (withFault fEngineStale .latched (runAt 9))
    t.ft[fEngineStale] = ⟨.active, 2, 5, 9000, 3⟩ := by
  decide


/-! ### Witnesses: concrete states and operands that meet an obligation's hypotheses, clause by clause, at the bounds -/

/-- In RUN at 100 ms. -/
def run : State := runAt 100

/-- A RUN state with the link in a state. -/
def linkIs (l : LinkState) : State := { run with lp := { run.lp with link := l } }

/-- A RUN state with the SC changed. -/
def withSc (sc : ShiftCtl) : State := { run with sc := sc }

/-- A RUN state with the hitch as given. -/
def withHc (hc : Hitch) : State := { run with hc := hc }

/-- A RUN state with the brake record as given. -/
def withTbc (b : BrakeRecord) : State := { run with tbc := { run.tbc with cur := b, pub := b } }

/-- Every step enabled and carrying the role of its own number. -/
def allRoles : Vector ScanStep 16 := .ofFn fun i => ⟨true, i.val, i.val⟩

/-- A profile of one TIME step of 1 ms. -/
def brief : ProfileStep := ⟨.lock, .time, 1, act .hold 0, act .hold 0, act .hold 0, act .hold 0⟩

/-- The SC with the example gears and every profile `brief`. -/
def timed : ShiftCtl := { tables with profiles := .replicate 8 [brief] }

/-- A CONFIG state that passes the seven checks of START. -/
def configured : State :=
  { State.reset with
    sc := tables, tbc := { curve := [(50, 0), (300, 600)] }
    mu := { steps := allRoles, scanMode := .continuous }
    vo := { chan := .replicate 14 { charac := some ⟨300, 80, 1400⟩ } } }

theorem witness_frames :
    requestOfRow (.poll (rq [])) = some (1, rq []) ∧ (rq []).wf = true ∧ ((1 : Byte) ≠ 2 ∧ (1 : Byte) ≠ 8 ∧ (1 : Byte) ≠ 9)
      ∧ (List.replicate 255 true).length ≠ 256 ∧ (List.replicate 257 true).length ≠ 256
      ∧ (0 : Word16) ≠ crc16 (frameHead 1 (rq [])) ∧ Ready run ∧ Ready State.reset ∧ Ready (linkIs .restoredWait)
      ∧ (41 : Byte).toNat = 41 ∧ (List.replicate 26 (0 : Byte)).length ≤ 26 := by
  decide

theorem witness_refused_requests :
    requestOfRow (.start (rq [])) = some (9, rq []) ∧ (rq [1]).len.toNat ≠ bodySize 9
      ∧ ((rq []).len.toNat = bodySize 9 ∧ run.inRun = true ∧ (9 : Byte) ∈ configKinds)
      ∧ ((rq [0, 1, 0]).len.toNat = bodySize 25 ∧ State.reset.inRun = false ∧ (25 : Byte) ∈ runKinds) := by
  decide

theorem witness_RestoringFrameThenRunsItsRequest :
    requestOfRow (.poll (rq [])) = some (1, rq []) ∧ requestOfRow (.unknownRequest 41 (rq [])) = none ∧ (linkIs .lost).inRun = true ∧ (linkIs .lost).lp.link = .lost
      ∧ ((withFault fLinkLost .active (linkIs .lost)).ft[fLinkLost]).state = .active := by
  decide

theorem witness_PollStatusAndReadReport :
    Ready run ∧ (rq []).len = 0 ∧ (rq [9, 0]).len = 2 ∧ (List.range 10).map (fun i => (rq [i, 0]).u8 0) = List.range 10
      ∧ ((rq [0, 15]).u8 0 = 0 ∧ (rq [0, 15]).u8 1 = (15 : Fin 16).val)
      ∧ ((rq [8, 46]).u8 0 = 8 ∧ (rq [8, 46]).u8 1 = (46 : Fin 47).val)
      ∧ 9 < (rq [10, 0]).u8 0 ∧ ((rq [0, 16]).u8 0 = 0 ∧ 15 < (rq [0, 16]).u8 1)
      ∧ ((rq [8, 47]).u8 0 = 8 ∧ 46 < (rq [8, 47]).u8 1) := by
  decide

/-- A notice of the last kind and the last block, at 65 537 ms (R15). -/
theorem test_notice_bytes :
    noticeBytes ⟨.scanDone, 3, .ft, 65537000, 0x0102, 0x0304⟩ = [17, 3, 9, 0, 1, 1, 2, 3, 4] := by
  decide

/-- In RUN with ATTN high, a LATCHED entry and the link LOST the part summary is 0x2B (R10). -/
theorem test_part_summary :
    let s := withFault 3 .latched (linkIs .lost)
    partSummary { s with lp := { s.lp with attn := true } } = 0x2B := by
  decide

theorem witness_NoticeQueueOffersByLevel :
    let n : Notice := ⟨.supplyChanged, 3, .vo, 0, 0, 0⟩
    let m : Notice := ⟨.hitchState, 0, .hc, 0, 0, 0⟩
    let q := List.replicate 15 n ++ m :: []
    n.level ≤ 3 ∧ (List.replicate 15 n).length < 16 ∧ q.length = 16 ∧ (∀ x ∈ q, m.level ≤ x.level)
      ∧ (∀ x ∈ List.replicate 15 n, m.level < x.level) ∧ m.level < n.level ∧ ¬m.level < m.level := by
  decide

theorem witness_NoticeLevelAndLinkSettings :
    Ready run ∧ (rq [3]).len = 1 ∧ (rq [3]).u8 0 ≤ 3 ∧ 3 < (rq [4]).u8 0 ∧
      (let f := rq (w2 20 ++ [1, 3])
      f.len = 4 ∧ (20 ≤ f.u16 0 ∧ f.u16 0 ≤ 1000 ∧ f.u8 2 ≤ 1 ∧ f.u8 3 ≤ 3) ∧ State.reset.inRun = false ∧ run.inRun = true
        ∧ f.u16 0 ≠ run.lp.tLink) ∧ ¬20 ≤ (rq (w2 19 ++ [1, 3])).u16 0
      ∧ (rq (w2 200 ++ [1, 0])).u16 0 = run.lp.tLink ∧ run.lp.policy = .safe := by
  decide

theorem witness_link_events :
    let due (p : Policy) (s : State) : State := { s with lp := { s.lp with supervision := some 100000, policy := p } }
    let geared (st : ShiftState) (v : Supply) : State :=
      { withSc { timed with pub := { dir := .f, gear := 6, state := st } } with vo := { run.vo with supply := v } }
    let road (still : Bool) : State :=
      { withTbc { mode := .road, present := true, check := .stage1 } with me := { pub := { standstill := still } } }
    Ready (linkIs .restoredWait) ∧ (linkIs .restoredWait).lp.link = .restoredWait ∧ Ready run ∧ run.lp.link = .up
      ∧ (∀ p ∈ [Policy.hold, .safe], let s := due p run
        s.undelivered = 0 ∧ KnownTimeout s ∧ s.inRun = true ∧ s.due s.lp.supervision = true ∧ s.lp.policy = p)
      ∧ (run.sc.pub.state = .idle ∧ run.sc.pub.dir = .n)
      ∧ (∀ st ∈ [ShiftState.idle, .pending, .stepping, .recovering, .aborting], ∀ v ∈ [Supply.normal, .low],
        let s := due .safe (geared st v)
        KnownTimeout s ∧ s.due s.lp.supervision = true ∧ s.sc.pub.state = st ∧ s.sc.pub.dir ≠ .n ∧ s.vo.supply = v
          ∧ FirstStepRuns s .disengage .none .n 0 2 brief)
      ∧ (∀ b : Bool, (road b).tbc.cur.mode ≠ .park ∧ (road b).me.pub.standstill = b ∧ (road b).tbc.cur.check ≠ .idle)
      ∧ KnownTimeout { run with sc := { run.sc with timeoutFault := some fSyncTimeout } } := by
  decide

/-- A link loss finds the hitch in each state that it holds, and RESUME one that it held, the brake record standing. -/
theorem witness_link_hitch :
    let held (h : Hitch) : State :=
      { linkIs .restoredWait with hc := h, tbc := { cur := { mode := .field }, pub := { mode := .field } } }
    (∀ st ∈ [HitchState.control, .shock, .headland, .transport, .lockedOut, .held, .stopped],
        (withHc { state := st }).hc.state = st ∧ (withHc { state := st }).hc.causeLink = false)
      ∧ (∀ b : Bool, let s := held { state := .held, ret := .control, causeLink := true, causeSupply := b }
        Ready s ∧ s.lp.link = .restoredWait ∧ s.hc.state = .held ∧ s.hc.causeRequest = false ∧ s.hc.causeSupply = b
          ∧ BrakeQuiet s ∧ s.tbc.cur.policyOn = false) := by
  decide

theorem witness_start :
    let sc (c : ShiftCtl) : State := { configured with sc := c }
    let curve (l : List (Nat × Nat)) : State := { configured with tbc := { curve := l } }
    let without (r : Fin 16) : State := { configured with mu := { configured.mu with steps := allRoles.set r {} } }
    let caps (l : LimitSet) : State := { configured with pc := { configured.pc with limits := l } }
    InConfig configured ∧ startChecks configured = none ∧ InConfig State.reset ∧ trailerFault configured.ft = false
      ∧ ([State.reset, sc { tables with map := tables.map.set 6 none }, sc { tables with profiles := .replicate 8 [] },
          without 0, { configured with vo := { chan := configured.vo.chan.set 8 {} } },
          curve [(1, 1)], curve (List.replicate 9 (1, 1)), curve (List.replicate 7 (2, 2) ++ [(2, 1)]),
          without roleSupp, { configured with mu := { configured.mu with scanMode := .single } },
          caps { gMaxUnverified := 9, gMaxRoad := 8 }, caps { gMaxRoad := 8 }].map startChecks
        = [(1, 0, 0), (2, 6, 0), (2, 0, 1), (3, 0, 0), (3, 8, 1), (4, 1, 0), (4, 9, 0), (4, 8, 8), (5, 11, 0),
            (6, 1, 0), (7, 1, 0), (7, 2, 0)].map some) := by
  decide

theorem witness_LimitsAreReplacedWholeAndLocked :
    let f (gear nE : Nat) := rq ([gear, 8, 12, 6] ++ w2 1500 ++ w2 1000 ++ w2 2000 ++ w2 nE)
    let locked := { State.reset with pc := { State.reset.pc with lock := true } }
    let wide := { run with pc := { run.pc with limits := { gMaxRoad := 7 } } }
    InConfig locked ∧ (f 1 1000).len = 12 ∧ locked.pc.lock = true ∧ InConfig State.reset ∧ State.reset.pc.lock = false
      ∧ 12 < (f 13 1000).u8 0 ∧ (f 1 999).u16 10 < 1000
      ∧ (1 ≤ (f 1 1000).u8 0 ∧ (f 1 1000).u8 0 ≤ 12 ∧ (f 1 1000).u8 1 = 8 ∧ (f 1 1000).u8 2 = 12 ∧ (f 1 1000).u8 3 = 6
        ∧ (f 1 1000).u16 4 ≤ 1500 ∧ (f 1 1000).u16 6 ≤ 1000 ∧ (f 1 1000).u16 8 ≤ 20000 ∧ (f 1 1000).u16 10 = 1000)
      ∧ Ready run ∧ run.pc.limits.gMaxUnverified ≤ run.pc.limits.gMaxRoad
      ∧ run.pc.limits.gMaxField ≤ run.pc.limits.gMaxRoad
      ∧ Ready wide ∧ ¬wide.pc.limits.gMaxUnverified ≤ wide.pc.limits.gMaxRoad := by
  decide

theorem witness_measurement_settings :
    let draft (n : Nat) := rq ([4, 1, 3] ++ w2 61440 ++ w2 4095 ++ w2 61440 ++ w2 4095 ++ w2 6000 ++ [n])
    InConfig configured ∧ (rq [15, 0, 15, 16, 7, 2]).len = 6 ∧ (rq [15, 0, 15, 16, 7, 2]).u8 0 = 15
      ∧ 2 < (rq [15, 0, 15, 16, 7, 3]).u8 5 ∧ (rq (15 :: w2 4095 ++ w2 0)).len = 5 ∧ (rq (15 :: w2 4095 ++ w2 0)).u16 1 = 4095
      ∧ 4095 < (rq (15 :: w2 4096 ++ w2 0)).u16 1 ∧ 15 < (rq (16 :: w2 0 ++ w2 0)).u8 0
      ∧ roleAssigned (allRoles.set 15 ⟨false, 15, 16⟩) 15 = false ∧ roleAssigned (allRoles.set 15 ⟨false, 15, 16⟩) 14 = true
      ∧ (draft 1).len = 14 ∧ (draft 1).u8 0 = 4 ∧ (draft 1).s16 3 = -4096 ∧ (draft 1).s16 5 = 4095 ∧ (draft 1).s16 7 = -4096
      ∧ (draft 1).s16 9 = 4095 ∧ (draft 1).u16 11 = 6000 ∧ (draft 1).u8 13 = 1 ∧ ¬1 ≤ (draft 0).u8 13
      ∧ (rq ([3, 1] ++ w2 1 ++ [0])).len = 5 ∧ (rq ([3, 1] ++ w2 1 ++ [0])).u16 2 = 1
      ∧ ¬((rq ([2, 1] ++ w2 1 ++ [0])).u8 4 = 1 ∨ (rq ([2, 1] ++ w2 1 ++ [0])).u8 0 = 3) := by
  decide

theorem witness_ScanStartAndStopRunTheSequencer :
    InConfig configured ∧ (rq []).len = 0 ∧ ((configured.mu.steps[(0 : Fin 16)]).enabled = true)
      ∧ (∀ j : Fin 16, j < 0 → (configured.mu.steps[j]).enabled = false)
      ∧ InConfig State.reset ∧ ∀ j : Fin 16, (State.reset.mu.steps[j]).enabled = false := by
  decide

theorem witness_EngineRecordIsStoredAndAges :
    Ready run ∧ (rq (w2 4000 ++ w2 1001 ++ w2 150)).len = 6
      ∧ (let s := { run with me := { run.me with engineStale := some 100000 } }
        s.undelivered = 0 ∧ s.inRun = true ∧ s.due s.me.engineStale = true) := by
  decide

theorem witness_output_and_supply_settings :
    let f (c a b k : Nat) := rq (c :: w2 a ++ w2 b ++ w2 k)
    InConfig State.reset ∧ 13 < (f 14 0 0 0).u8 0 ∧ (f 13 1 0 0).len = 7
      ∧ ((f 9 1 1 0).u16 1 ≤ (f 9 1 1 0).u16 3) ∧ ((f 10 2 1 0).u16 3 < (f 10 2 1 0).u16 1)
      ∧ (1 ≤ (f 13 1 0 0).u16 1 ∧ (f 13 1 0 0).u16 3 = 0) ∧ (f 11 0 0 0).u16 1 < 1
      ∧ ((f 12 2000 2000 2000).u16 1 ≤ (f 12 2000 2000 2000).u16 5) ∧ 2000 < (f 0 2001 0 2000).u16 1
      ∧ (rq (w2 299 ++ w2 300)).len = 4 ∧ (rq (w2 299 ++ w2 300)).u16 0 < (rq (w2 299 ++ w2 300)).u16 2
      ∧ (rq (w2 299 ++ w2 300)).u16 2 = 300 ∧ ¬(rq (w2 300 ++ w2 300)).u16 0 < (rq (w2 300 ++ w2 300)).u16 2 := by
  decide

theorem witness_WrittenCommandsDriveTheirCurrent :
    let s := withChan 9 { charac := some ⟨250, 1250, 0⟩ } run
    s.pc.part ≠ .config ∧ (s.vo.chan[(9 : Fin 14)]).forced = false ∧ (s.vo.chan[(9 : Fin 14)]).charac = some ⟨250, 1250, 0⟩
      ∧ 0 < min 1001 1000 ∧ (run.vo.chan[(9 : Fin 14)]).charac = none ∧ State.reset.pc.part = .config
      ∧ (withChan 9 { forced := true } run).vo.chan[(9 : Fin 14)].forced = true ∧ run.vo.supply = .low := by
  decide

theorem witness_diagnostic_samples :
    let ch : Chan := { drive := 200, diag := some 100000 }
    let f : Chan := { ch with drive := 0, forced := true }
    let s := withChan 0 ch run
    let at_ (st : EntryState) := withFault (fOutput 0) st (withChan 0 f run)
    s.undelivered = 0 ∧ s.inRun = true ∧ s.due (s.vo.chan[(0 : Fin 14)]).diag = true ∧ chanIdx .s1 = 0
      ∧ ¬4 * 50 < ch.drive ∧ 4 * 49 < ch.drive ∧ 200 ≤ ch.drive ∧ ¬ch.openHold.getD s.time + 50000 ≤ s.time
      ∧ (some 50000).getD s.time + 50000 ≤ s.time
      ∧ ((at_ .active).ft[fOutput 0]).state = .active ∧ ((at_ .latched).ft[fOutput 0]).state = .latched
      ∧ (at_ .active).due ((at_ .active).vo.chan[(0 : Fin 14)]).diag = true ∧ f.forced = true ∧ ch.forced = false
      ∧ 0 < (s.vo.chan[chanIdx .s1]).drive ∧ 2400 < (2401 : Word16).toNat
      ∧ KnownTimeout s ∧ KnownTimeout (at_ .active)
      ∧ (chanIdx .raise, chanIdx .lower, chanIdx .frontRelease, chanIdx .trlCtrl, chanIdx .trlSupp) =
        (chRaise, chLower, chFront, chCtrl, chSupp) := by
  decide

theorem witness_table_settings :
    let gear (g r p : Nat) := rq ([g, 1, 3, 2] ++ w2 r ++ [p])
    let step (n op d : Nat) := rq ([7, n, op, 0, 0] ++ w2 d ++ [0, 0, 0, 0, 0, 0, 4, 0])
    InConfig configured ∧ (gear 12 30000 250).len = 7 ∧ (gear 12 30000 250).u8 0 = (11 : Fin 12).val + 1
      ∧ (gear 12 30000 250).u16 4 = 30000 ∧ (gear 1 1000 1).u16 4 = 1000 ∧ (gear 1 1000 1).u8 6 = 1
      ∧ 12 < (gear 13 1000 1).u8 0 ∧ (gear 1 999 1).u16 4 < 1000
      ∧ Ready configured ∧ Ready run ∧ run.inRun = true ∧ configured.inRun = false ∧ (step 0 0 2000).len = 15
      ∧ (step 0 0 2000).u8 0 = (7 : Fin 8).val ∧ (step 0 0 2000).u16 5 = 2000 ∧ (step 0 0 2000).u8 1 ≤ 11
      ∧ (step 0 0 2000).u8 2 = 0 ∧ (configured.sc.profiles[(7 : Fin 8)]).length = 0 ∧ 0 < (step 1 0 0).u8 1
      ∧ 11 < (step 12 0 0).u8 1 ∧ (step 0 1 0).u8 2 = 1 ∧ 1 < (step 0 2 0).u8 2 := by
  decide

theorem witness_map_shift_and_trailer_settings :
    InConfig configured ∧ (rq [6, 7]).len = 2 ∧ (rq [6, 7]).u8 0 = 6 ∧ (rq [6, 7]).u8 1 = 7 ∧ 6 < (rq [7, 7]).u8 0
      ∧ 7 < (rq [6, 8]).u8 1 ∧ (rq (w2 500 ++ [250] ++ w2 500)).len = 5 ∧ (rq (w2 500 ++ [250] ++ w2 500)).u16 3 = 500
      ∧ ¬1 ≤ (rq (w2 500 ++ [250] ++ w2 0)).u16 3 ∧ (rq (w2 2000 ++ w2 300 ++ w2 1500)).len = 6
      ∧ (rq (w2 2000 ++ w2 300 ++ w2 1500)).u16 4 = 1500 ∧ ¬1 ≤ (rq (w2 0 ++ w2 300 ++ w2 1500)).u16 0
      ∧ (rq (3 :: w2 2000 ++ w2 2000)).len = 5 ∧ (rq (3 :: w2 2000 ++ w2 2000)).u8 0 = configured.tbc.curve.length + 1
      ∧ configured.tbc.curve.length + 1 < (rq (4 :: w2 0 ++ w2 0)).u8 0 := by
  decide

/-- A base F6, its queue of `n` entries, the SC in a state. -/
def inGear (n : Nat) (st : ShiftState) : State :=
  withSc { tables with queue := List.replicate n ⟨.gear, 6, .f, 0⟩, pub := { dir := .f, gear := 6, state := st } }

theorem witness_ShiftsAreQueuedClampedOrMerged :
    InRunUp (inGear 3 .stepping) ∧ blockingEntry (inGear 3 .stepping).ft .gearbox = none
      ∧ basePosition (inGear 3 .stepping) = (.f, 6) ∧ basePosition (inGear 4 .stepping) = (.f, 6)
      ∧ (inGear 3 .stepping).sc.queue = List.replicate 2 ⟨.gear, 6, .f, 0⟩ ++ [⟨.gear, 6, .f, 0⟩]
      ∧ (let d : ShiftRun := downshift 0 0 250 (.replicate 9 0)
        let at_ (st : ShiftState) := withSc { (inGear 0 st).sc with shift := some d }
        (at_ .stepping).sc.queue = [] ∧ (at_ .stepping).sc.pub.state = .stepping ∧ (at_ .stepping).sc.shift = some d
          ∧ basePosition (at_ .stepping) = (.f, 5) ∧ (at_ .recovering).sc.pub.state = .recovering
          ∧ basePosition (at_ .recovering) = (.f, 6))
      ∧ basePosition (inGear 0 .idle) = (.f, 6) ∧ (inGear 0 .idle).vo.supply = .low ∧ (inGear 0 .idle).sc.queue = []
      ∧ (rq [1, 253, 0]).len = 3 ∧ (rq [1, 253, 0]).s8 1 = -3 ∧ (rq [0, 12, 0]).s8 1 = 12
      ∧ resolveGear gears 12 6 = some 6 ∧ resolveGear gears 12 3 = some 3 ∧ resolveGear gears 12 12 = some 12
      ∧ resolveGear gears 6 12 = some 6 ∧ (inGear 0 .idle).sc.pub.above = false
      ∧ (inGear 0 .idle).me.pub.vR ≤ (inGear 0 .idle).pc.limits.vShuttleMax := by
  decide

/-- What the owner of a forced channel may hold when it is told: nothing to release, a gear or a shift, a hitch stopped or not, a
front drive FORCED or not, a line check running or not. -/
theorem witness_forced_owners :
    let aborting : State := withSc { tables with pub := { state := .aborting } }
    let timed_ : State := withFault fSyncTimeout .active
      (withSc { (inGear 2 .recovering).sc with timeoutFault := some fSyncTimeout })
    let check := withTbc { mode := .field, present := true, check := .stage2, supp := .charged }
    (run.sc.pub.state = .idle ∧ run.sc.pub.dir = .n) ∧ aborting.sc.pub.state = .aborting
      ∧ ((inGear 0 .idle).sc.pub.state = .idle ∧ (inGear 0 .idle).sc.pub.dir ≠ .n)
      ∧ (∀ st ∈ [ShiftState.pending, .stepping, .recovering], (inGear 2 st).sc.pub.state = st ∧ KnownTimeout (inGear 2 st))
      ∧ (KnownTimeout timed_ ∧ timed_.sc.timeoutFault = some fSyncTimeout ∧ (timed_.ft[fSyncTimeout]).state = .active)
      ∧ (withHc { state := .stopped }).hc.state = .stopped ∧ (withHc hitch).hc.state ≠ .stopped
      ∧ ({ run with fdm := { run.fdm with state := .forced } } : State).fdm.state = .forced
      ∧ ({ run with fdm := { run.fdm with state := .released } } : State).fdm.state ≠ .forced
      ∧ check.tbc.cur.check ≠ .idle ∧ run.tbc.cur.check = .idle := by
  decide

theorem witness_shifts_start_at_once :
    let s (nOut : Nat) (braking : Bool) : State :=
      let u := driveAt 100 { dir := .f, gear := 6 }
      { u with
        sc := { timed with pub := u.sc.pub }, me := { u.me with pub := { nOut := nOut } }
        tbc := { cur := { braking := braking }, pub := { braking := braking } } }
    let fits (n g : Nat) : Bool := decide (n * (gearAt gears g).ratio / 1000 ≤ 2400)
    InRunUp (s 0 false) ∧ blockingEntry (s 0 false).ft .gearbox = none ∧ basePosition (s 0 false) = (.f, 6)
      ∧ (s 0 false).tbc.cur = (s 0 false).tbc.pub ∧ (s 0 false).sc.pub.state = .idle ∧ (s 0 false).sc.queue = []
      ∧ (s 0 false).vo.supply = .normal ∧ (s 0 true).tbc.pub.braking = true ∧ (s 0 false).pc.limits.nEngineMax = 2400
      ∧ (fits 0 5 = true ∧ fits 206 4 = false ∧ fits 206 5 = true ∧ gearEnabled gears 5 = true)
      ∧ (∀ d : Fin 2, ∀ g : Fin 13, FirstStepRuns (s 206 false) (classify gears .f 6 (if d = 0 then .f else .r) g)
          (senseOf (classify gears .f 6 (if d = 0 then .f else .r) g) 6 g) (if d = 0 then .f else .r) g 2 brief)
      ∧ resolveGear gears (s 0 false).sc.window.reverseCap 6 = some 6 := by
  decide

theorem witness_ShiftsAreRefusedInOrder :
    let s := inGear 0 .idle
    let above := withSc { s.sc with pub := { s.sc.pub with above := true } }
    let fast := { s with me := { s.me with pub := { vR := 2001 } } }
    let none_ := withSc { s.sc with gears := .replicate 12 {} }
    (linkIs .restoredWait).undelivered = 0 ∧ (linkIs .restoredWait).lp.link = .restoredWait ∧ InRunUp s
      ∧ (rq [0, 13, 0]).s8 1 = 13 ∧ (rq [1, 4, 0]).s8 1 = 4 ∧ (rq [2, 1, 0]).u8 0 = 2 ∧ (rq [0, 1, 2]).u8 2 = 2
      ∧ blockingEntry (withFault fRecoveryFailed .latched s).ft .gearbox = some fRecoveryFailed
      ∧ basePosition run = (.n, 0) ∧ InRunUp run ∧ blockingEntry run.ft .gearbox = none
      ∧ basePosition (withSc { s.sc with pub := { s.sc.pub with gear := 12 } }) = (.f, 12)
      ∧ (above.sc.pub.above = true ∧ basePosition above = (.f, 6) ∧ 6 < ((6 : Int) + (rq [1, 1, 0]).s8 1).toNat)
      ∧ resolveGear none_.sc.gears none_.sc.window.gHigh 7 = none ∧ basePosition none_ = (.f, 6)
      ∧ (InRunUp none_ ∧ (rq []).len = 0 ∧ blockingEntry none_.ft .gearbox = none
        ∧ none_.me.pub.vR ≤ none_.pc.limits.vShuttleMax ∧ resolveGear none_.sc.gears none_.sc.window.reverseCap 6 = none)
      ∧ fast.pc.limits.vShuttleMax < fast.me.pub.vR := by
  decide

theorem witness_NeutralActsByShiftState :
    let s := driveAt 100 { dir := .f, gear := 6 }
    Ready s ∧ (rq []).len = 0 ∧ s.inRun = true ∧ (s.sc.pub.state = .idle ∧ s.sc.pub.dir ≠ .n) ∧ s.vo.supply = .normal
      ∧ s.sc.map[(6 : Fin 7)] = some 2
      ∧ (withSc { s.sc with profiles := s.sc.profiles.set 2 [⟨.lock, .time, 1, act .hold 0, act .hold 0, act .hold 0,
          act .hold 0⟩] }).sc.profiles[(2 : Fin 8)] = [⟨.lock, .time, 1, act .hold 0, act .hold 0, act .hold 0, act .hold 0⟩]
      ∧ (run.sc.pub.state = .idle ∧ run.sc.pub.dir = .n) ∧ (inGear 1 .aborting).sc.pub.state = .aborting
      ∧ (inGear 1 .pending).sc.pub.state = .pending ∧ ((inGear 0 .idle).vo.supply = .low) := by
  decide

/-- A PENDING head for a gear, in F6. -/
def headFor (g nOut : Nat) : State :=
  let s := driveAt 100 { dir := .f, gear := 6, state := .pending, tgtDir := .f, tgtGear := g }
  { s with
    sc := { s.sc with
      queue := [⟨.gear, g, .f, 0⟩]
      profiles := .replicate 8 [⟨.torque, .time, 1, act .hold 0, act .hold 0, act .hold 0, act .hold 0⟩] }
    me := { s.me with pub := { nOut := nOut } } }

theorem witness_PendingEntryStarts :
    let s := headFor 5 206
    let t := headFor 4 206
    let back := { s with me := { s.me with pub := { vR := 2001 } } }
    let two : State := { s with sc := { s.sc with queue := [⟨.gear, 6, .f, 0⟩, ⟨.shuttle, 6, .r, 0⟩] } }
    s.undelivered = 0 ∧ s.inRun = true ∧ s.sc.pub.state = .pending ∧ s.vo.supply = .normal
      ∧ s.sc.queue = [⟨.gear, 5, .f, 0⟩] ∧ (two.sc.queue = ⟨.gear, 6, .f, 0⟩ :: ⟨.shuttle, 6, .r, 0⟩ :: []
        ∧ resolveGear two.sc.gears two.sc.window.gHigh 6 = some two.sc.pub.gear ∧ two.sc.pub.dir = .f)
      ∧ resolveGear s.sc.gears 12 5 = some 5 ∧ resolveGear s.sc.gears 12 6 = some 6
      ∧ s.me.pub.nOut * (gearAt s.sc.gears 5).ratio / 1000 ≤ s.pc.limits.nEngineMax
      ∧ ¬t.me.pub.nOut * (gearAt t.sc.gears 4).ratio / 1000 ≤ t.pc.limits.nEngineMax
      ∧ t.me.pub.nOut * (gearAt t.sc.gears 5).ratio / 1000 ≤ t.pc.limits.nEngineMax
      ∧ (∀ h : Fin 13, 4 < h.val → h.val ≤ 12 → h.val < 6 → gearEnabled t.sc.gears h = true →
        ¬400 * (gearAt t.sc.gears h).ratio / 1000 ≤ t.pc.limits.nEngineMax)
      ∧ (back.pc.limits.vShuttleMax < back.me.pub.vR ∧ resolveGear back.sc.gears back.sc.window.reverseCap 6 = some 6)
      ∧ resolveGear (Vector.replicate 12 {}) 12 5 = none ∧ BrakeQuiet { s with tbc := { s.tbc with
        cur := { mode := .field }, pub := { mode := .field } } } := by
  decide

/-- The example tables in the position (d, g) with an entry for (d', g') PENDING, and every map entry at a profile of the one
step given. -/
def toward (d : Dir) (g : Nat) (d' : Dir) (g' : Nat) (st : ProfileStep) : State :=
  let s := driveAt 100 { dir := d, gear := g, state := .pending, tgtDir := d', tgtGear := g' }
  let held (c : Nat) : Nat := if d = .f ∧ (c = 7 ∨ c = g - 5 ∨ c = 5) then 190 else 0
  { s with
    sc := { s.sc with profiles := .replicate 8 [st], queue := [⟨.gear, g', d', 0⟩] }
    vo := { s.vo with chan := .ofFn fun c => { command := held c.val } } }

theorem witness_first_steps :
    let fill (st : ProfileStep) (p : Nat) : State := withRole 0 p (toward .f 6 .f 5 st)
    let first : ProfileStep := ⟨.fill, .filled, 250, act .fill 40, act .ramp 120, act .hold 0, act .hold 0⟩
    let synced : ProfileStep := { brief with endCond := .synced }
    FirstStepRuns (toward .f 6 .f 5 first) .speed .down .f 5 2 first
      ∧ FirstStepRuns (fill first 29) .speed .down .f 5 2 first ∧ (fill first 29).roleOk (clutchRole 0) = true
      ∧ FirstStepRuns (fill synced 30) .speed .down .f 5 2 synced ∧ ¬FillOpen (fill first 30) (some 0) first
      ∧ FirstStepRuns (fill first 30) .disengage .none .n 0 2 first
      ∧ FirstStepRuns (fill first 30) .shuttle .none .r 6 2 first
      ∧ FirstStepRuns (toward .n 0 .f 1 first) .engage .none .f 1 2 first := by
  refine ⟨?_, ?_, ?_, ?_, ?_, ?_, ?_, ?_⟩ <;> decide

/-- R98 and R99, the worked bindings of section 6.2: the four roles bound and the nine commands after the first update. -/
theorem test_worked_bindings :
    let begun (s : State) : Option (List (Option Nat)) × List Nat :=
      let t := after .shiftStart s
      (t.sc.shift.map fun r => [r.onA, r.offA, r.onB, r.offB].map (Option.map Fin.val),
        (t.vo.chan.toList.take 9).map (·.command))
    begun (toward .f 6 .f 8 brief) = (some [some 3, some 1, none, none], [0, 190, 0, 0, 0, 190, 0, 190, 0])
      ∧ begun (toward .f 8 .r 6 brief) = (some [some 8, some 7, none, none], [0, 190, 0, 0, 0, 190, 0, 190, 0])
      ∧ begun (toward .n 0 .f 1 brief) = (some [some 7, none, none, none], [180, 0, 0, 0, 180, 0, 0, 0, 0]) := by
  decide

theorem test_worked_range_bindings :
    let roles (d : Dir) (g : Nat) (d' : Dir) (g' : Nat) : Option (List (Option Nat)) :=
      (after .shiftStart (toward d g d' g' brief)).sc.shift.map
        fun r => [r.onA, r.offA, r.onB, r.offB].map (Option.map Fin.val)
    roles .f 4 .f 5 = some [some 5, some 4, some 0, some 3] ∧ roles .f 7 .f 11 = some [some 6, some 5, none, none] := by
  decide

/-- In F6 with an entry for F8 PENDING, the supply and BRAKING as given. -/
def waiting (v : Supply) (braking : Bool) : State :=
  let s := headFor 8 0
  { s with
    vo := { s.vo with supply := v }
    tbc := { s.tbc with cur := { braking := braking }, pub := { braking := braking } } }

theorem witness_WaitsAndDumpsTakeTheNextHead :
    let s (n : Nat) (st : ShiftState) : State := withSc { tables with
      queue := List.replicate n ⟨.gear, 6, .f, 0⟩, pub := { state := st }, supplyWait := some 100000
      brakeWait := some 100000, dump := some 100000, timeoutFault := some fSyncTimeout }
    let one : State := { waiting .low true with undelivered := 1 }
    let quiet : State := { run with undelivered := 1 }
    (s 1 .pending).undelivered = 0 ∧ (s 1 .pending).inRun = true ∧ (s 1 .pending).sc.pub.state = .pending
      ∧ (s 1 .pending).due (s 1 .pending).sc.supplyWait = true ∧ (s 1 .pending).due (s 1 .pending).sc.brakeWait = true
      ∧ (s 1 .pending).sc.queue = [⟨.gear, 6, .f, 0⟩] ∧ (s 1 .pending).vo.supply = .low
      ∧ (s 2 .pending).sc.queue = [⟨.gear, 6, .f, 0⟩, ⟨.gear, 6, .f, 0⟩]
      ∧ (s 0 .aborting).due (s 0 .aborting).sc.dump = true ∧ (s 0 .aborting).sc.pub.state = .aborting
      ∧ (s 0 .aborting).sc.pub.dir = .n ∧ (s 0 .aborting).sc.queue = []
      ∧ (s 1 .aborting).sc.queue = [⟨.gear, 6, .f, 0⟩] ∧ KnownTimeout (s 1 .aborting)
      ∧ (∀ v ∈ [Supply.low, .normal], ∀ b : Bool, let w := waiting v b
        w.sc.queue = [⟨.gear, 8, .f, 0⟩] ∧ w.sc.pub.state = .pending ∧ w.vo.supply = v ∧ w.tbc.pub.braking = b
          ∧ w.sc.pub.dir = .f ∧ w.sc.pub.gear < 8 ∧ w.inRun = true)
      ∧ run.sc.pub.state ≠ .pending ∧ run.undelivered = 0
      ∧ (∀ w ∈ [one, quiet], w.undelivered = 1
        ∧ (fdmEvaluate false (scOnBrake { w with undelivered := 0 })).undelivered = 0) := by
  decide

/-- R116 and R177: in ROAD the head dropped for speed ends pre-brake, which publishes the brake record, and the next head, PENDING
in the same event with that publication still to be delivered, starts. -/
theorem test_next_head_starts_before_the_delivery :
    let b : BrakeRecord := { mode := .road, present := true, preBrake := .active, pCmd := 150 }
    let s := headFor 6 0
    let s : State := { s with
      sc := { s.sc with queue := [⟨.gear, 6, .r, 0⟩, ⟨.gear, 5, .f, 0⟩] }
      me := { s.me with pub := { vR := 2001 } }, tbc := { cur := b, pub := b } }
    let p := enterPending ⟨.gear, 5, .f, 0⟩ (dropEntry id ⟨.gear, 6, .r, 0⟩ .speed (popHead s))
    let t := after .shiftStart s
    (p.undelivered, p.tbc.pub.preBrake) = (1, .runOut)
      ∧ (t.sc.pub.state, t.sc.pub.tgtGear, t.undelivered, t.tbc.pub.preBrake) = (.stepping, 5, 0, .runOut) := by
  decide

theorem witness_ModulationUpdatesRunTheProfile :
    let p : Vector Nat 9 := .replicate 9 190
    let s := shiftingAt 10130 (downshift 0 10000000 250 p) .fill
    let run0 := downshift 0 10000000 250 p
    let lockStep := shiftingAt 10540 (downshift 3 10460000 80 p) .lock
    let torque := shiftingAt 10250 (downshift 1 10130000 120 p) .torque
    s.undelivered = 0 ∧ s.inRun = true ∧ s.due s.sc.modDue = true ∧ s.sc.pub.state = .stepping ∧ s.sc.shift = some run0
      ∧ run0.profile = some 2 ∧ (s.sc.profiles[(2 : Fin 8)]).drop 0 = profile ∧ s.time - 10000000 < 250 * 1000
      ∧ s.roleOk (clutchRole 0) = false
      ∧ (lockStep.due lockStep.sc.modDue = true ∧ (lockStep.sc.profiles[(2 : Fin 8)]).drop 4 = []
        ∧ 80 * 1000 ≤ lockStep.time - 10460000 ∧ lockStep.sc.queue = []
        ∧ ({ lockStep with sc := { lockStep.sc with queue := [⟨.gear, 4, .f, 0⟩] } } : State).sc.queue =
          ⟨.gear, 4, .f, 0⟩ :: [])
      ∧ (torque.due torque.sc.modDue = true ∧ 120 * 1000 ≤ torque.time - 10130000
        ∧ ((torque.sc.profiles[(2 : Fin 8)]).drop 2).map (·.endCond) = [.synced, .time]) := by
  decide

theorem witness_shift_events :
    let p : Vector Nat 9 := .replicate 9 190
    let field (s : State) : State := { s with tbc := { cur := { mode := .field }, pub := { mode := .field } } }
    let fill := shiftingAt 10130 (downshift 0 10000000 250 p) .fill
    let torque := shiftingAt 10250 (downshift 1 10130000 120 p) .torque
    (fill.sc.pub.phase = .fill ∧ fill.sc.pub.step = 0) ∧ torque.sc.pub.step ≠ 1 + 1 ∧ BrakeQuiet (field fill)
      ∧ ¬Qualifies (field fill).tbc.cur { (field fill).sc.pub with state := .idle } ∧ KnownTimeout fill := by
  decide

/-- Section 10.9: INERTIA of the downshift F10 to F9 in ROAD makes pre-brake ACTIVE at 150, and LOCK makes it run out. -/
theorem test_pre_brake_follows_the_record :
    let d (ph : Phase) : Driveline := ⟨0, .f, 10, .stepping, .speed, .down, ph, 2, .f, 9, false⟩
    let s : State := { driveAt 50100 (d .torque) with tbc := {
      curve := [(50, 0), (300, 600), (800, 1500)], pPre := 150
      cur := { mode := .road, present := true, pPedal := 30 }, pub := { mode := .road, present := true, pPedal := 30 } } }
    let a := scPublish (d .inertia) s
    let b := scPublish (d .lock) { a with time := 50300000 }
    (a.tbc.pub.preBrake, a.tbc.pub.pCmd, a.tbc.runOut, a.undelivered) = (.active, 150, none, 1)
      ∧ (b.tbc.pub.preBrake, b.tbc.pub.pCmd, b.tbc.runOut) = (.runOut, 150, some 50600000) := by
  decide

theorem witness_StepTimeoutsRecoverOrAbort :
    let p : Vector Nat 9 := .replicate 9 190
    let fill := withRole 0 29 (shiftingAt 10250 (downshift 0 10000000 250 p) .fill)
    let sync := shiftingAt 10850 (downshift 2 10250000 600 p) .inertia
    (fill.undelivered = 0 ∧ fill.inRun = true ∧ fill.due fill.sc.modDue = true ∧ fill.sc.pub.state = .stepping
        ∧ 250 * 1000 ≤ fill.time - 10000000 ∧ fill.roleOk (clutchRole 0) = true
        ∧ (fill.mu.snapshot.entries[clutchRole 0]).value < fill.sc.pFillDetect ∧ fill.sc.pub.kind ≠ .engage)
      ∧ (sync.due sync.sc.modDue = true ∧ 600 * 1000 ≤ sync.time - 10250000
        ∧ (profile.drop 2).head?.map (·.endCond) = some .synced ∧ sync.me.pub.inputSuspect = false
        ∧ (downshift 2 10250000 600 p).sync < 2)
      ∧ ({ fill with sc := { fill.sc with pub := { fill.sc.pub with kind := .engage } } } : State).sc.pub.kind = .engage := by
  decide

/-- Section 7.9 (R127 to R129): a FILL step of the downshift F6 to F5 late at 250 ms recovers from the pressures it had just
formed, the two clutches of F6 keeping theirs, with the record's position kept and the next update 5 ms on. -/
theorem test_late_fill_recovers :
    let p : Vector Nat 9 := .replicate 9 190
    let t := after .stepTimeout (withRole 0 29 (shiftingAt 10250 (downshift 0 10000000 250 p) .fill))
    ((t.sc.pub.state, t.sc.pub.dir, t.sc.pub.gear, t.sc.modDue) = (.recovering, .f, 6, some 10255000))
      ∧ (t.sc.shift.map fun x => (x.onA, x.applied, x.entry, x.entryP[(0 : Fin 9)])) = some (none, 200, 10250000, 40)
      ∧ (List.finRange 9).map (fun c => (t.vo.chan[clutchChan c]).command) = [0, 120, 0, 0, 0, 190, 0, 190, 0] := by
  decide

theorem witness_RecoveriesSucceedOrFail :
    let p : Vector Nat 9 := .replicate 9 40
    let rec_ (ms sync nIn : Nat) : State :=
      let s := shiftingAt ms { downshift 0 10000000 250 p with sync := sync } .none
      { s with
        sc := { s.sc with pub := { s.sc.pub with state := .recovering } }, me := { s.me with pub := { nIn := nIn } } }
    let a := rec_ 10199 0 51
    let b := rec_ 10200 2 50
    let c := rec_ 11000 2 51
    let on := rec_ 10999 2 51
    let q : State := withFault fSyncTimeout .active { b with sc := { b.sc with
      queue := [⟨.gear, 4, .f, 0⟩], timeoutFault := some fSyncTimeout } }
    (a.undelivered = 0 ∧ a.inRun = true ∧ a.due a.sc.modDue = true ∧ a.sc.pub.state = .recovering
        ∧ a.time - 10000000 < 200000)
      ∧ (b.due b.sc.modDue = true ∧ 10000000 + 200000 ≤ b.time ∧ ((b.me.pub.nIn : Int) - 0).natAbs ≤ b.sc.wSync
        ∧ b.sc.queue = [] ∧ b.sc.pub.dir = .f ∧ b.sc.pub.gear = 6)
      ∧ (on.due on.sc.modDue = true ∧ 10000000 + 200000 ≤ on.time ∧ on.time - 10000000 < 1000000
        ∧ ¬((on.me.pub.nIn : Int) - 0).natAbs ≤ on.sc.wSync ∧ on.me.pub.inputSuspect = false)
      ∧ (KnownTimeout q ∧ q.due q.sc.modDue = true ∧ q.sc.queue = ⟨.gear, 4, .f, 0⟩ :: []
        ∧ q.sc.timeoutFault = some fSyncTimeout ∧ (q.ft[fSyncTimeout]).state = .active ∧ b.sc.timeoutFault = none)
      ∧ (c.due c.sc.modDue = true ∧ 10000000 + 1000000 ≤ c.time ∧ ¬((c.me.pub.nIn : Int) - 0).natAbs ≤ c.sc.wSync
        ∧ c.me.pub.nOut = 0 ∧ c.me.pub.inputSuspect = false) := by
  decide

theorem witness_FrontSettingsModeAndWait :
    let f (high : Nat) := rq (w2 19999 ++ w2 20000 ++ w2 20000 ++ w2 1000 ++ w2 600 ++ w2 500 ++ w2 high)
    let s := { run with fdm := { run.fdm with state := .engageWait, wait := some 100000 } }
    Ready run ∧ (f 501).len = 14 ∧ (f 501).u16 0 < (f 501).u16 2 ∧ (f 501).u16 2 = 20000 ∧ (f 501).u16 4 = 20000
      ∧ (f 501).u16 6 = 1000 ∧ (f 501).u16 8 = 600 ∧ 500 ≤ (f 501).u16 10 ∧ (f 501).u16 10 < (f 501).u16 12
      ∧ ¬(f 500).u16 10 < (f 500).u16 12 ∧ (linkIs .restoredWait).inRun = true ∧ InRunUp run ∧ (rq [2]).len = 1
      ∧ 2 < (rq [3]).u8 0 ∧ blockingEntry run.ft .front = none
      ∧ blockingEntry (withFault (fOutput chFront) .latched run).ft .front = some (fOutput chFront)
      ∧ s.undelivered = 0 ∧ s.fdm.state = .engageWait ∧ s.due s.fdm.wait = true := by
  decide

theorem witness_HitchSettingsAndSetpoints :
    let f (pUp pad : Nat) := rq (w2 100 ++ [50, 64] ++ w2 1000 ++ w2 1000 ++ w2 pUp ++ w2 1000 ++ w2 2000 ++ [pad])
    let set (slip : Nat) := rq (w2 1000 ++ [100] ++ w2 0 ++ [slip])
    let near := withHc { pos := 980, posValid := true }
    Ready run ∧ (f 1000 0).len = 15 ∧ (f 1000 0).u16 0 = 100 ∧ (f 1000 0).u8 2 = 50 ∧ (f 1000 0).u8 3 = 64
      ∧ (f 1000 0).u16 4 = 1000 ∧ (f 1000 0).u16 6 = 1000 ∧ (f 1000 0).u16 8 = run.pc.limits.pHitchUpperHard
      ∧ (f 1000 0).u16 10 = 1000 ∧ (f 1000 0).u16 12 = 2000 ∧ (f 1000 0).u8 14 = 0 ∧ ¬(f 1000 1).u8 14 = 0
      ∧ InRunUp run ∧ (set 1).len = 6 ∧ (set 1).u8 5 ≤ 1 ∧ 1 < (set 2).u8 5 ∧ blockingEntry run.ft .hitch = none
      ∧ blockingEntry (withFault fHitchStall .latched run).ft .hitch = some fHitchStall ∧ run.hc.posValid = false
      ∧ InRunUp near ∧ near.hc.state = .lockedOut ∧ near.hc.posValid = true
      ∧ ((min 1000 ((set 1).u16 0) : Int) - near.hc.pos).natAbs ≤ 20
      ∧ ((linkIs .restoredWait).undelivered = 0 ∧ (linkIs .restoredWait).inRun = true
        ∧ (linkIs .restoredWait).lp.link = .restoredWait) := by
  decide

theorem witness_hitch_modes_and_holds :
    let held := withHc { state := .held, causeRequest := true }
    InRunUp run ∧ (rq [2]).len = 1 ∧ 2 < (rq [3]).u8 0 ∧ (rq [2]).u8 0 ≤ 2 ∧ run.hc.state = .lockedOut
      ∧ blockingEntry run.ft .hitch = none ∧ InRunUp held ∧ held.hc.state = .held
      ∧ (withHc { state := .stopped }).hc.state = .stopped ∧ Ready held ∧ (rq []).len = 0 ∧ held.inRun = true
      ∧ held.lp.link = .up ∧ (held.hc.causeSupply = false ∧ held.hc.causeLink = false)
      ∧ (run.hc.causeRequest = false ∧ run.hc.holdPending = false)
      ∧ ¬(withHc { holdPending := true }).hc.holdPending = false ∧ Ready (linkIs .restoredWait) := by
  decide

theorem witness_ShocksRaiseAndReturn :
    let s (count ignored : Nat) (st : HitchState) : State := { withHc { state := st, shockTimer := some 100000 } with
      mu := { cfg := { dShock := 3000 }, foc := { running := true, count := count, ignored := ignored, sampleDue := 100000 } } }
    let x : BitVec 13 := 1501
    (s 0 1 .control).undelivered = 0 ∧ (s 0 1 .control).mu.foc.running = true
      ∧ (s 0 1 .control).mu.foc.sampleDue ≤ (s 0 1 .control).time ∧ 0 < (s 0 1 .control).mu.foc.ignored
      ∧ (x.toInt ≤ 4000 ∧ 3000 < (x.toInt + x.toInt).natAbs)
      ∧ (s 2 0 .control).mu.foc.count + 1 < (s 2 0 .control).mu.cfg.nShock
      ∧ (s 3 0 .control).mu.cfg.nShock ≤ (s 3 0 .control).mu.foc.count + 1
      ∧ (s 3 0 .control).hc.state = .control ∧ (s 3 0 .lockedOut).hc.state ≠ .control ∧ (s 3 0 .shock).hc.state = .shock
      ∧ (s 3 0 .shock).due (s 3 0 .shock).hc.shockTimer = true := by
  decide

theorem witness_draft_conversions :
    let s (settled started : Nat) (chop : Bool) (h : Hitch) : State := { withHc h with mu := {
      cfg := { chop := chop }
      dc := { running := true, settled := settled, started := started, startDue := some 100000, ends := [100000] } } }
    let paired : State := { s 2 0 true hitch with mu := { (s 2 0 true hitch).mu with
      dc := { (s 2 0 true hitch).mu.dc with prev := some (-4096, 4095) } } }
    let u := s 2 0 false hitch
    let track : State := { run with mu := { (s 0 0 false hitch).mu with scanMode := .track, steps := allRoles } }
    (u.undelivered = 0 ∧ u.mu.dc.running = true ∧ u.mu.cfg.chop = false ∧ 2 ≤ u.mu.dc.settled ∧ u.hc.state = .control
        ∧ u.hc.holdPending = false ∧ u.hc.stall = none ∧ u.mu.dc.ends = [100000] ∧ 100000 ≤ u.time)
      ∧ (paired.mu.cfg.chop = true ∧ paired.mu.dc.prev = some (-4096, 4095) ∧ paired.mu.dc.ends = [100000])
      ∧ (s 0 2 true hitch).mu.dc.startDue = some 100000 ∧ 2 ≤ (s 0 2 true hitch).mu.dc.started
      ∧ (s 1 0 true hitch).mu.dc.settled < 2
      ∧ ((s 2 0 true hitch).mu.cfg.chop = true ∧ (s 2 0 true hitch).mu.dc.prev = none)
      ∧ (s 0 0 false hitch).mu.scanMode ≠ .track
      ∧ (track.inRun = true ∧ track.mu.scanMode = .track ∧ track.mu.run = none
        ∧ (track.mu.steps[(0 : Fin 16)]).enabled = true)
      ∧ (∀ st ∈ [HitchState.shock, .headland, .transport, .lockedOut, .held, .stopped], ∀ b : Bool,
        let v := s 2 0 false { hitch with state := st, holdPending := b }
        v.hc.state = st ∧ v.hc.holdPending = b ∧ 2 ≤ v.mu.dc.settled ∧ v.mu.dc.ends = [100000])
      ∧ (∀ b : Bool,
        let v := s 2 0 false { hitch with state := .stopped, stopStall := true, stopPosition := b }
        v.hc.state = .stopped ∧ v.hc.stopPosition = b ∧ v.hc.raiseForced = false ∧ v.hc.lowerForced = false
          ∧ blockingEntry v.ft .hitch = none) := by
  decide

/-- A hitch that has opened RAISE wide for 1 000 ms without moving is found stalled, one that has moved 5 is not (R174). -/
theorem test_stall_after_1000_ms :
    let s (pos : Nat) : State := { runAt 2000 with
      mu := { dc := { running := true, settled := 2, ends := [2000000] } }
      hc := { state := .control, posValid := true, pos := 100, lever := 1000, stall := some ⟨1000000, pos, .raise⟩ } }
    ((after (.conversionEnd 0 0) (s 104)).hc.state, (after (.conversionEnd 0 0) (s 104)).hc.stopStall,
      (after (.conversionEnd 0 0) (s 105)).hc.state, (after (.conversionEnd 0 0) (s 105)).hc.stall)
      = (.stopped, true, .control, some ⟨2000000, 100, .raise⟩) := by
  decide

/-- R183 steps 3 and 4 (R185, R189): TRAILER_MODE into ROAD with a trailer during INERTIA of a downshift makes pre-brake ACTIVE
with its term in P_cmd, and during LOCK not; the vented line is CHARGED at 300 and CHARGING at 299. -/
theorem test_road_tests_pre_brake_and_the_line :
    let b (p : Nat) : BrakeRecord := { mode := .park, present := true, suppP := p, suppValid := true }
    let s (ph : Phase) (p : Nat) : State :=
      { driveAt 100 ⟨0, .f, 6, .stepping, .speed, .down, ph, 2, .f, 5, false⟩ with tbc := { cur := b p, pub := b p } }
    let got (ph : Phase) (p : Nat) :=
      let t := after (.trailerMode (rq [2, 1])) (s ph p)
      (t.tbc.pub.preBrake, t.tbc.pub.pCmd, t.tbc.pub.supp)
    got .inertia 300 = (.active, 150, .charged) ∧ got .lock 299 = (.off, 0, .charging) := by
  decide

theorem witness_TrailerModesAreApplied :
    let s := withTbc { mode := .field, present := true }
    (linkIs .restoredWait).lp.link = .restoredWait ∧ InRunUp s ∧ (rq [2, 1]).len = 2 ∧ (rq [2, 1]).u8 0 ≤ 2
      ∧ (rq [2, 1]).u8 1 ≤ 1 ∧ 2 < (rq [3, 1]).u8 0 ∧ 1 < (rq [2, 2]).u8 1
      ∧ (s.tbc.cur.mode ≠ .park ∧ s.me.pub.standstill = false) ∧ (s.tbc.cur.mode = .field ∧ s.tbc.cur.present = true)
      ∧ s.tbc.cur = s.tbc.pub ∧ InRunUp (withTbc {}) ∧ (withTbc {}).tbc.cur.mode = .park
      ∧ (¬Qualifies { s.tbc.cur with mode := .road, present := true } s.sc.pub
        ∧ Qualifies { s.tbc.cur with mode := .road, present := true } ⟨0, .f, 6, .stepping, .speed, .down, .inertia, 2, .f, 5, false⟩
        ∧ Qualifies { s.tbc.cur with mode := .road, present := true } ⟨0, .f, 6, .stepping, .shuttle, .none, .fill, 0, .r, 6, false⟩)
      ∧ ((withFault fSuppLow .active (withTbc {})).ft[fSuppLow]).state = .active
      ∧ InRunUp (withFault fSuppLow .active (withTbc {})) := by
  decide

/-- No PENDING head, a head under a LOW supply, and an upshift under braking all wait. -/
theorem witness_HeadWaits :
    HeadWaits (withTbc { mode := .field, present := true }) ∧ HeadWaits (waiting .low false)
      ∧ HeadWaits (waiting .normal true) := by
  refine ⟨fun h => absurd h (by decide), fun _ _ _ _ => .inl (by decide), fun _ e rest q => .inr ?_⟩
  have h : (waiting .normal true).sc.queue = [⟨.gear, 8, .f, 0⟩] := by decide
  obtain ⟨rfl, -⟩ := List.cons.inj (q.symm.trans h)
  decide

theorem witness_HandLeverAndLineCheck :
    let s := withTbc { mode := .field, present := true }
    let ok := { s with vo := { s.vo with supply := .normal }, me := { s.me with pub := { standstill := true } } }
    Ready run ∧ (rq (w2 1001)).len = 2 ∧ (rq (w2 1001)).u16 0 = 1001 ∧ run.inRun = true
      ∧ (linkIs .restoredWait).lp.link = .restoredWait ∧ (withTbc { check := .stage1 }).tbc.cur.check ≠ .idle
      ∧ (withTbc { check := .stage1 }).lp.link = .up ∧ InRunUp ok ∧ ok.tbc.cur.check = .idle
      ∧ blockingEntry (withFault (fOutput chCtrl) .latched ok).ft .trailer = some (fOutput chCtrl)
      ∧ blockingEntry ok.ft .trailer = none ∧ ok.tbc.cur.present = true ∧ ok.tbc.cur.mode ≠ .road
      ∧ ok.me.pub.standstill = true ∧ ok.vo.supply = .normal ∧ InRunUp run ∧ run.tbc.cur.present = false := by
  decide

theorem witness_TrailerTimersExpire :
    let s (b : BrakeRecord) : State := withFault fScanStale .active { run with tbc := {
      cur := b, pub := b, charge := some 100000, stage := some 100000, runOut := some 100000, lowHold := some 0 } }
    let t : State := { s { mode := .field, present := true } with time := 500000 }
    let stepping : State := { s { mode := .road, present := true } with
      sc := { tables with pub := ⟨0, .f, 6, .stepping, .speed, .down, .lock, 3, .f, 5, false⟩ } }
    let braked : State := { waiting .normal true with tbc := (s { braking := true }).tbc }
    (s {}).undelivered = 0 ∧ (s {}).inRun = true ∧ (s {}).due (s {}).tbc.charge = true ∧ (s {}).due (s {}).tbc.stage = true
      ∧ (s {}).due (s {}).tbc.runOut = true ∧ (s { check := .stage1 }).tbc.cur.check = .stage1
      ∧ (s { check := .stage2 }).tbc.cur.check = .stage2 ∧ (s {}).sc.pub.state = .idle
      ∧ (stepping.inRun = true ∧ stepping.due stepping.tbc.runOut = true ∧ stepping.sc.pub.phase ≠ .inertia
        ∧ stepping.sc.pub.kind ≠ .shuttle ∧ stepping.sc.pub.state = .stepping)
      ∧ (braked.due braked.tbc.runOut = true ∧ braked.sc.pub.state = .pending
        ∧ braked.sc.queue = [⟨.gear, 8, .f, 0⟩] ∧ braked.sc.pub.dir = .f ∧ braked.sc.pub.gear < 8
        ∧ braked.tbc.cur.braking = true ∧ braked.tbc.pub.braking = true)
      ∧ t.undelivered = 0 ∧ t.inRun = true ∧ (t.ft[fScanStale]).state = .active ∧ t.tbc.cur.mode ≠ .park
      ∧ t.tbc.cur.present = true ∧ t.tbc.cur.chargeOpen = false ∧ t.heldFor t.tbc.lowHold 500000 = true := by
  decide

theorem witness_faults :
    ((run.ft[fEngineStale]).state = .clear ∧ ((withFault fEngineStale .active run).ft[fEngineStale]).state = .active
        ∧ ((withFault fEngineStale .latched run).ft[fEngineStale]).state = .latched)
      ∧ Ready run ∧ (rq [0, 46]).len = 2 ∧ ((rq [0, 46]).u8 0 = 0 ∧ (rq [0, 46]).u8 1 ≤ 46)
      ∧ ((rq [1, 3]).u8 0 = 1 ∧ (rq [1, 3]).u8 1 ≤ 3) ∧ (rq [2, 255]).u8 0 = 2 ∧ 46 < (rq [0, 47]).u8 1
      ∧ 3 < (rq [1, 4]).u8 1 ∧ 2 < (rq [3, 0]).u8 0 ∧ run.sc.pub.state ≠ .pending
      ∧ (∀ w ∈ [waiting .low false, waiting .normal true], Ready w ∧ w.sc.pub.state = .pending
        ∧ w.sc.queue = [⟨.gear, 8, .f, 0⟩] ∧ (w.vo.supply = .low ∨ (w.sc.pub.dir = .f ∧ w.sc.pub.gear < 8
          ∧ w.tbc.cur.braking = true ∧ w.tbc.pub.braking = true))) := by
  decide

theorem witness_restored_owners :
    let s : State := withFault (fOutput chRaise) .latched (withHc { state := .stopped, raiseForced := true, stopOutput := true })
    let w : State := withFault fCtrlDeviation .latched run
    let road : State := { s with tbc := { cur := { mode := .field }, pub := { mode := .field } } }
    Ready s ∧ (s.ft[fOutput chRaise]).state = .latched ∧ s.hc.state = .stopped ∧ s.hc.stopPosition = false
      ∧ s.hc.lowerForced = false ∧ (withFault (fOutput chFront) .latched run).inRun = true ∧ BrakeQuiet road
      ∧ (w.inRun = true ∧ (w.ft[fCtrlDeviation]).state = .latched ∧ w.tbc.cur = w.tbc.pub) := by
  decide

/-- R175, R176, R201: cleared with a HITCH_STALL, which comes later, RAISE is restored and the hitch stays STOPPED. -/
theorem test_restored_raise :
    let s : State := withFault (fOutput chRaise) .latched (withHc { state := .stopped, raiseForced := true, stopOutput := true })
    let clear (u : State) : State := after (.clearFault (rq [1, 1])) u
    let hitch (u : State) : HitchState × Bool × Bool := (u.hc.state, u.hc.raiseForced, u.hc.stopOutput)
    hitch (clear s) = (.lockedOut, false, false) ∧ notes (clear s) = [(.hitchState, 0, 6)]
      ∧ hitch (clear (withFault fHitchStall .latched s)) = (.stopped, false, false) := by
  decide

/-- R107, R202: clearing the last trailer entry in FIELD opens the window from G_max_unverified to G_max_field. -/
theorem test_cleared_deviation_opens_the_window :
    let s := withFault fCtrlDeviation .latched (withTbc { mode := .field })
    let s : State := { s with
      pc := { s.pc with limits := { s.pc.limits with gMaxUnverified := 7, gMaxField := 12, rMax := 6 } }
      sc := { s.sc with window := { gHigh := 7, reverseCap := 6, basis := .field, faultCap := true } } }
    let t := after (.clearFault (rq [2, 0])) s
    (t.sc.window.gHigh, t.sc.window.faultCap) = (12, false) ∧ notes t = [(.windowChanged, 12, 6)] := by
  decide

theorem witness_ScanRunsFillTheSnapshot :
    let r (i : Fin 16) (c : Bool) (since : Nat) : ScanRun := ⟨allRoles, 1, i, c, since, .replicate 16 none⟩
    let s (x : ScanRun) : State := { run with mu := { run.mu with run := some x } }
    (s (r 0 false 99900)).undelivered = 0 ∧ (s (r 0 false 99900)).mu.run = some (r 0 false 99900)
      ∧ (r 0 false 99900).since + (r 0 false 99900).delay * 100 ≤ run.time ∧ (r 0 true 98000).since + 2000 ≤ run.time
      ∧ (r 0 true 99500).since + 500 ≤ run.time ∧ run.mu.scanMode ≠ .continuous
      ∧ (let c : State := { run with mu := { run.mu with
          run := some (r 15 true 98000), scanMode := .continuous, steps := allRoles } }
        c.inRun = true ∧ c.mu.scanMode = .continuous ∧ (c.mu.steps[(0 : Fin 16)]).enabled = true
          ∧ c.mu.run = some (r 15 true 98000))
      ∧ (((r 14 true 99500).steps[(15 : Fin 16)]).enabled = true ∧ ∀ j : Fin 16, 14 < j → j < 15 → False)
      ∧ (∀ j : Fin 16, 15 < j → False) ∧ ∀ r : Fin 16, (allRoles[r]).enabled = true ∧ (allRoles[r]).role = r.val := by
  decide

theorem witness_scan_supply_and_pulses :
    let s : State := { run with mu := { run.mu with stale := some 100000 } }
    let t : State := withFault fScanStale .active { run with vo := { run.vo with supply := .normal, supplyHold := some 0 } }
    let p (st : PulseState) : State := { run with mu := { run.mu with
      pulse := run.mu.pulse.set 0 { calibrated := true, state := st, gap := some 100000 } } }
    let u : State := { withTbc { mode := .field, present := true } with time := 500000, mu := s.mu }
    let u : State := { u with tbc := { u.tbc with lowHold := some 0 } }
    (s.undelivered = 0 ∧ s.inRun = true ∧ s.due s.mu.stale = true)
      ∧ (u.undelivered = 0 ∧ u.inRun = true ∧ u.due u.mu.stale = true ∧ u.tbc.cur.mode ≠ .park
        ∧ u.tbc.cur.present = true ∧ u.tbc.cur.chargeOpen = false ∧ u.heldFor u.tbc.lowHold 500000 = true)
      ∧ (1 ≤ u.tbc.pBrakeOn ∧ u.hc.state ≠ .stopped
        ∧ ({ u with hc := { state := .stopped } } : State).hc.state = .stopped)
      ∧ ((t.ft[fScanStale]).state = .active ∧ t.vo.supply = .normal ∧ t.heldFor t.vo.supplyHold 100000 = true)
      ∧ (run.mu.pulse[(0 : Fin 4)]).calibrated = false ∧ ((p .stopped).mu.pulse[(0 : Fin 4)]).state = .stopped
      ∧ ((p .running).mu.pulse[(0 : Fin 4)]).calibrated = true
      ∧ (p .running).due ((p .running).mu.pulse[(0 : Fin 4)]).gap = true ∧ pulseIdx .input = 0 := by
  decide

/-- The last conversion of a run whose step 15 carries role 15, every role so far invalid in `n` runs. -/
def lastStep (n : Nat) : State :=
  { run with
    ft := run.ft.set (fSensorRange 15) ⟨if 3 ≤ n then .active else .clear, 1, 0, 0, 0⟩
    mu := { run.mu with
      run := some ⟨allRoles, 0, 15, true, 99500, .replicate 16 (some 2000)⟩
      mem := .replicate 16 ⟨none, none, n⟩ } }

theorem witness_SnapshotPublicationsReachTheJobs :
    let s := lastStep 2
    s.undelivered = 0 ∧ s.inRun = true ∧ s.mu.run = some ⟨allRoles, 0, 15, true, 99500, .replicate 16 (some 2000)⟩
      ∧ 99500 + 500 ≤ s.time ∧ (∀ j : Fin 16, 15 < j → False) ∧ s.mu.scanMode ≠ .continuous
      ∧ (∀ r : Fin 16, (allRoles[r]).enabled = true ∧ (allRoles[r]).role = r.val ∧ (s.mu.mem[r]).invalid = 2)
      ∧ (∀ i : Fin 16, ¬(((Vector.replicate 16 ({} : ScanStep))[i]).enabled = true
        ∧ ((Vector.replicate 16 ({} : ScanStep))[i]).role = 15))
      ∧ (withRole rolePos 0 run).mu.snapshot.entries[rolePos].valid = true
      ∧ run.mu.snapshot.entries[rolePos].present = false ∧ (withHc { state := .stopped }).hc.state = .stopped
      ∧ (withHc hitch).hc.state ≠ .stopped := by
  decide

/-- The third invalid run reports with the end of the range its count lies at, 80 and 4 015 are valid and end it (R58, R59). -/
theorem test_third_invalid_run :
    let got (n : Nat) (raw : BitVec 12) :=
      let t := after (.scanStepConversionEnd raw) (lastStep n)
      ((t.ft[fSensorRange 15]).state, (t.ft[fSensorRange 15]).detail, (t.mu.mem[(15 : Fin 16)]).invalid)
    got 1 79 = (.clear, 0, 2) ∧ got 2 79 = (.active, 0, 3) ∧ got 2 4016 = (.active, 1, 3) ∧ got 2 80 = (.clear, 0, 0)
      ∧ got 3 4015 = (.latched, 0, 0) ∧ got 3 4016 = (.active, 0, 4) := by
  decide +kernel

theorem witness_SupplyChangesReachTheJobs :
    let vo (v : Supply) (p : Int) (h : Option Nat) : State :=
      let s := withRole roleSupply p run
      { s with vo := { s.vo with supply := v, supplyHold := h } }
    let fill (k : ShiftKind) (ph : Phase) : State :=
      let s := shiftingAt 10130 (downshift 0 10000000 250 (.replicate 9 190)) ph
      { s with sc := { s.sc with pub := { s.sc.pub with kind := k } }, vo := { s.vo with supply := .low } }
    let front (st : FrontState) : State := { run with fdm := { run.fdm with state := st } }
    (∀ v ∈ [Supply.low, .normal], (vo v 0 none).vo.supply = v)
      ∧ (let x := (vo .low 150 (some 0)).mu.snapshot.entries[roleSupply]
        x.present = true ∧ x.valid = true ∧ ((vo .low 150 (some 0)).vo.pOk : Int) ≤ x.value
          ∧ (run.ft[fScanStale]).state ≠ .active)
      ∧ ((vo .low 149 none).mu.snapshot.entries[roleSupply]).value < (run.vo.pOk : Int)
      ∧ ((vo .normal 119 none).mu.snapshot.entries[roleSupply]).value < (run.vo.pLow : Int)
      ∧ (some 0).getD run.time + 100000 ≤ run.time ∧ run.time < (some 1).getD run.time + 100000
      ∧ (∀ k ∈ [ShiftKind.speed, .range, .shuttle, .engage, .disengage], let s := fill k .fill
        s.sc.pub.state = .stepping ∧ s.vo.supply = .low ∧ s.sc.pub.phase = .fill ∧ s.sc.pub.kind = k
          ∧ s.sc.shift = some (downshift 0 10000000 250 (.replicate 9 190)))
      ∧ (fill .speed .torque).sc.pub.phase ≠ .fill ∧ (fill .speed .torque).sc.pub.state ≠ .pending
      ∧ (front .forced).fdm.state = .forced ∧ (front .engaged).fdm.state ≠ .forced ∧ run.vo.supply = .low
      ∧ (∀ st ∈ [HitchState.control, .shock, .headland, .transport, .lockedOut], (withHc { state := st }).hc.state = st)
      ∧ (∀ st ∈ [HitchState.lockedOut, .control, .headland, .transport],
        let h : Hitch := { state := .held, ret := st, causeSupply := true }
        h.ret = st ∧ h.causeRequest = false ∧ h.causeLink = false)
      ∧ (withTbc { check := .stage1 }).tbc.cur.check ≠ .idle ∧ run.tbc.cur.check = .idle := by
  decide

/-- A shift withdrawn in its FILL step recovers with the queue emptied, an ENGAGE is dropped and aborts (R133). -/
theorem test_supply_withdraws_a_fill :
    let s (k : ShiftKind) : State :=
      let s := shiftingAt 10130 (downshift 0 10000000 250 (.replicate 9 190)) .fill
      { s with
        sc := { s.sc with pub := { s.sc.pub with kind := k }, queue := [⟨.gear, 4, .f, 0⟩] }
        vo := { s.vo with supply := .low } }
    let t (k : ShiftKind) := scOnSupply (s k)
    ((t .speed).sc.pub.state, (t .speed).sc.queue.length, (t .speed).sc.timeoutFault) = (.recovering, 0, none)
      ∧ ((t .engage).sc.pub.state, (t .engage).sc.queue.length, notes (t .engage)) =
        (.aborting, 1, [(.shiftDropped, 5, 0)]) := by
  decide

/-- In RUN at 500 ms, the supply NORMAL: the two lines' pressures, the pedals at 0, and the brake record, with both hold times
from 0 on. -/
def lines (ctrl supp : Int) (b : BrakeRecord) (held : Nat) : State :=
  let s := withRole 13 0 (withRole 12 0 (withRole 11 supp (withRole 10 ctrl (runAt 500))))
  { s with
    vo := { s.vo with supply := .normal }
    tbc := { s.tbc with
      cur := b, pub := b, reference := 900, heldCmd := held, stage := some 900000, charge := some 900000
      lowHold := some 0, devHold := some 0 } }

/-- The low test starts under 120 and ends at 150, the deviation test starts over 15 percent (R187, R188). -/
theorem test_low_and_deviation :
    let b : BrakeRecord := { mode := .field, present := true, verified := true, pCmd := 1000, hand := 500 }
    let got (st : EntryState) (i : Fin 47) (ctrl supp : Int) :=
      let t := tbcOnSnapshot (withFault i st (lines ctrl supp b 0))
      ((t.ft[i]).state, t.tbc.pub.verified, t.tbc.lowHold)
    ([119, 120, 149, 150].map (got .latched fSuppLow 1000) =
        [(.active, false, some 0), (.latched, true, none), (.latched, true, none), (.latched, true, none)])
      ∧ ([120, 149, 150].map (got .active fSuppLow 1000) =
        [(.active, true, none), (.active, true, none), (.latched, true, none)])
      ∧ ([849, 850, 1150, 1151].map (got .latched fCtrlDeviation · 200) =
        [(.active, false, none), (.latched, true, none), (.latched, true, none), (.active, false, none)])
      ∧ (got .active fCtrlDeviation 850 200).1 = .latched := by
  decide

/-- Stage 1 passes at 900 and 150; stage 2 fails 50 below its reference, below 150, or ends at another P_cmd (R190, R191). -/
theorem test_line_check_stages :
    let b (c : CheckState) : BrakeRecord := { mode := .field, present := true, verified := true, check := c }
    let got (c : CheckState) (held : Nat) (ctrl supp : Int) :=
      let t := tbcOnSnapshot (lines ctrl supp (b c) held)
      (t.tbc.pub.check, t.tbc.pub.outcome, (t.ft[fLineCheck]).detail, t.tbc.pub.verified)
    got .stage1 0 899 150 = (.stage1, .none, 0, true) ∧ got .stage1 0 900 149 = (.stage1, .none, 0, true)
      ∧ got .stage1 0 900 150 = (.stage2, .none, 0, true)
      ∧ (tbcOnSnapshot (lines 950 150 (b .stage1) 0)).tbc.reference = 950
      ∧ (tbcOnSnapshot (lines 950 150 (b .stage1) 0)).tbc.heldCmd = 1000
      ∧ got .stage2 1000 849 150 = (.idle, .failed, 2, false) ∧ got .stage2 1000 850 149 = (.idle, .failed, 3, false)
      ∧ got .stage2 1000 850 150 = (.stage2, .none, 0, true) ∧ got .stage2 999 850 150 = (.idle, .aborted, 0, true) := by
  decide

/-- The supplementary line is CHARGED from 300, CHARGING again under 180, and closes the charge window from 150 (R185, R186). -/
theorem test_supplementary_line :
    let got (st : SuppState) (supp : Int) :=
      let t := tbcOnSnapshot (lines 0 supp { mode := .field, present := true, supp := st, chargeOpen := true } 0)
      (t.tbc.pub.supp, t.tbc.pub.chargeOpen)
    got .charging 299 = (.charging, false) ∧ got .charging 300 = (.charged, false) ∧ got .charged 180 = (.charged, false)
      ∧ got .charged 179 = (.charging, false) ∧ got .charging 149 = (.charging, true)
      ∧ got .charging 150 = (.charging, false) := by
  decide

theorem witness_motion_updates :
    let s : State := { run with me := { run.me with updateDue := some 100000 } }
    let b (still : Bool) (x : BrakeRecord) : State := { withTbc x with me := { pub := { standstill := still } } }
    s.undelivered = 0 ∧ s.inRun = true ∧ s.due s.me.updateDue = true ∧ run.me.pub.standstill = false
      ∧ (b true { policyOn := true, mode := .road }).me.pub.standstill = true
      ∧ (b true { policyOn := true, mode := .road }).inRun = true
      ∧ (b true { policyOn := true, mode := .road }).tbc.cur.policyOn = true
      ∧ (b true { policyOn := true, mode := .road }).lp.notices = []
      ∧ (b true {}).tbc.cur.policyOn = false ∧ (b false { check := .stage2 }).tbc.cur.check ≠ .idle := by
  decide

/-- In F6 at n_out 201, 151 off the synchronous speed with W_sync 50, the gear slips; at 150, and at n_out 200, it does not (R131). -/
theorem test_locked_gear_slips :
    let s (nOut off since : Nat) : State :=
      let s := driveAt 500 { dir := .f, gear := 6 }
      { s with
        sc := { s.sc with slipHold := some since }
        me := { s.me with pub := { nOut := nOut, nIn := nOut * 9700 / 1000 + off } } }
    let got (nOut off since : Nat) :=
      let t := scOnMotion (s nOut off since)
      ((t.ft[fClutchSlip]).state, (t.ft[fClutchSlip]).detail, t.sc.slipHold)
    got 201 151 300000 = (.active, 6, some 300000) ∧ got 201 151 300001 = (.clear, 0, some 300001)
      ∧ got 201 150 300000 = (.clear, 0, none) ∧ got 200 151 300000 = (.clear, 0, none) := by
  decide

/-- A motion update at standstill parks a trailer under the policy pressure (R195). -/
theorem test_motion_update_parks :
    let s : State := { withTbc { mode := .road, present := true, policyOn := true } with
      me := { updateDue := some 100000, standSince := some 0 }, time := 600000 }
    let t := after .motionUpdate s
    (t.tbc.pub.mode, t.tbc.pub.policyOn, t.tbc.pub.pCmd, (notes t).head?) =
      (.park, false, s.pc.limits.pTrlMax, some (.trailerModeChanged, 0, 1)) := by
  decide

/-! ### Witnesses of the invariants: a state in RUN that holds them all and steps -/

/-- In RUN in CONTROL with a LOWER command that drives, a full shift queue and a POLL waiting. -/
def working : State :=
  let s := withChan chLower { charac := some ⟨250, 1250, 0⟩, command := 300, drive := 550 } (inGear 4 .stepping)
  { s with
    pending := [.poll (rq [])], hc := { state := .control, posValid := true, lowerCmd := 300 }
    fdm := { state := .engaged, causeConfig := false } }

/-- In RUN in `st` with RAISE commanded and driven. -/
def raising (st : HitchState) : State :=
  let s := withChan chRaise { charac := some ⟨250, 1250, 0⟩, command := 300, drive := 550 } run
  { s with hc := { state := st, posValid := true, raiseCmd := 300 } }

theorem witness_invariants :
    (Bounded working ∧ ValvesSafe working) ∧ HitchSafe working ∧ FrontSafe working ∧ Coherent working
      ∧ working.undelivered = 0 := by
  unfold Bounded ValvesSafe ChanSafe HitchSafe FrontSafe Coherent
  refine ⟨?_, ?_, ?_⟩ <;> (try dsimp only) <;> decide

theorem witness_HitchSafe :
    HitchSafe (withHc { state := .stopped, stopPosition := true }) ∧ HitchSafe (withHc { state := .held, posValid := true, ret := .control })
      ∧ ∀ st ∈ [HitchState.control, .headland, .shock, .transport], HitchSafe (raising st) := by
  unfold HitchSafe
  refine ⟨?_, ?_, ?_⟩ <;> dsimp only <;> decide

theorem witness_invariants_step : ∃ t, step working = .next t :=
  ⟨_, rfl⟩

/-- The limit lock with a CFG_LIMITS, a START that passes and a RESTART waiting. -/
theorem witness_StepsKeepTheLimitLockAndPartState :
    let locked := { State.reset with pc := { lock := true } }
    locked.pc.lock = true ∧ Instr.cfgLimits (rq []) ≠ .powerOn ∧ (Instr.start (rq [])).wf = true
      ∧ configured.pc.part = .config ∧ (after (.start (rq [])) configured).pc.part = .run
      ∧ run.pc.part = .run ∧ (after (.restart (rq [])) run).pc.part = .config := by
  decide

end Sys2Proof.Tests
end

section
/-! SUPPORT. What an event does to the notice queue, the tables and the PC, said once: every operation of the part posts notices by
offering them (R16, R17), takes entries off the shift queue only, and leaves the PC, the tables and the TBC's settings. `Within` says
so, and one lemma per operation carries it from the operation's parts to the whole. -/

namespace Sys2Proof.Machine

open Sys2Proof

/-- `t` follows `s` within one event: notices of level 0 to 3 were offered in turn and nothing else changed in the LP, the PC stands,
the shift queue grew no longer, and the profiles, the brake curve, P_brake_on and the bound of the slip ring stand. -/
structure Within (s t : State) : Prop where
  lp : ∃ ns : List Notice, (∀ n ∈ ns, n.level ≤ 3) ∧ t.lp = offerAll ns s.lp
  pc : t.pc = s.pc
  queue : t.sc.queue.length ≤ s.sc.queue.length
  profiles : t.sc.profiles = s.sc.profiles
  curve : t.tbc.curve = s.tbc.curve
  pBrakeOn : t.tbc.pBrakeOn = s.tbc.pBrakeOn
  ring : s.me.ring.length ≤ 8 → t.me.ring.length ≤ 8

namespace Within

theorem refl (s : State) : Within s s := ⟨⟨[], by simp, rfl⟩, rfl, le_rfl, rfl, rfl, rfl, id⟩

theorem trans {a b c : State} (h : Within a b) (h' : Within b c) : Within a c := by
  obtain ⟨ns, hn, e⟩ := h.lp
  obtain ⟨ms, hm, e'⟩ := h'.lp
  refine ⟨⟨ns ++ ms, fun n hn' => ?_, ?_⟩, h'.pc.trans h.pc, h'.queue.trans h.queue, h'.profiles.trans h.profiles,
    h'.curve.trans h.curve, h'.pBrakeOn.trans h.pBrakeOn, fun x => h'.ring (h.ring x)⟩
  · exact (List.mem_append.1 hn').elim (hn n) (hm n)
  · rw [offerAll_append, ← e, e']

section
variable {s0 s : State} (h : Within s0 s)
include h

/-! ### The writes -/

/-- A change outside the LP, the PC, the SC, the ME and the TBC's settings. -/
theorem same {t : State} (e : t.lp = s.lp ∧ t.pc = s.pc ∧ t.sc = s.sc ∧ t.me = s.me ∧ t.tbc.curve = s.tbc.curve
    ∧ t.tbc.pBrakeOn = s.tbc.pBrakeOn) : Within s0 t := by
  obtain ⟨hlp, hpc, hsc, hme, hc, hp⟩ := e
  exact h.trans ⟨⟨[], by simp, hlp⟩, hpc, by rw [hsc], by rw [hsc], hc, hp, by rw [hme]; exact id⟩

theorem setSc {x : ShiftCtl} (e : x.queue.length ≤ s.sc.queue.length ∧ x.profiles = s.sc.profiles) :
    Within s0 { s with sc := x } :=
  h.trans ⟨⟨[], by simp, rfl⟩, rfl, e.1, e.2, rfl, rfl, id⟩

theorem setMe {x : Motion} (e : s.me.ring.length ≤ 8 → x.ring.length ≤ 8) : Within s0 { s with me := x } :=
  h.trans ⟨⟨[], by simp, rfl⟩, rfl, le_rfl, rfl, rfl, rfl, e⟩

theorem setTbc {x : TrailerBrake} (e : x.curve = s.tbc.curve ∧ x.pBrakeOn = s.tbc.pBrakeOn) :
    Within s0 { s with tbc := x } :=
  h.same ⟨rfl, rfl, rfl, rfl, e⟩

theorem setHc (x : Hitch) : Within s0 { s with hc := x } := h.same ⟨rfl, rfl, rfl, rfl, rfl, rfl⟩

theorem setFdm (x : FrontDrive) : Within s0 { s with fdm := x } := h.same ⟨rfl, rfl, rfl, rfl, rfl, rfl⟩

theorem setMu (x : Measure) : Within s0 { s with mu := x } := h.same ⟨rfl, rfl, rfl, rfl, rfl, rfl⟩

theorem setVo (x : ValveOut) : Within s0 { s with vo := x } := h.same ⟨rfl, rfl, rfl, rfl, rfl, rfl⟩

theorem setUndelivered (x : Nat) : Within s0 { s with undelivered := x } := h.same ⟨rfl, rfl, rfl, rfl, rfl, rfl⟩

theorem postAt {k : NoticeKind} {lvl : Nat} (hl : lvl ≤ 3) (v1 v2 : Nat) : Within s0 (postAt k lvl v1 v2 s) :=
  h.trans ⟨⟨[_], by simpa using hl, rfl⟩, rfl, le_rfl, rfl, rfl, rfl, id⟩

theorem post (k : NoticeKind) (v1 v2 : Nat) : Within s0 (post k v1 v2 s) := h.postAt (kindLevel_le k) v1 v2

omit h in
/-- A loop each turn of which is within its bounds is within them. -/
theorem foldl {α : Type} {g : State → α → State} (hg : ∀ {s} (a : α), Within s0 s → Within s0 (g s a)) (l : List α) {s : State}
    (h : Within s0 s) : Within s0 (l.foldl g s) := by
  induction l generalizing s with
  | nil => exact h
  | cons a l ih => exact ih (hg a h)

/-! ### The TBC's command and publication -/

theorem tbcForm : Within s0 (tbcForm s) := h.same ⟨rfl, rfl, rfl, rfl, rfl, rfl⟩

theorem tbcPublish : Within s0 (tbcPublish s) := by
  unfold Machine.tbcPublish
  split
  · exact h
  · exact h.same ⟨rfl, rfl, rfl, rfl, rfl, rfl⟩

theorem writeChan (i : Fin 14) (cmd : Nat) : Within s0 (writeChan i cmd s) := h.same (by simp)

theorem writeClutches (v : Vector Nat 9) : Within s0 (writeClutches v s) := h.same (by simp)

theorem tbcFinish : Within s0 (tbcFinish s) := ((h.tbcForm.writeChan _ _).writeChan _ _).tbcPublish

theorem preBrakeTest : Within s0 (preBrakeTest s) := by
  unfold Machine.preBrakeTest
  dsimp only
  split
  · exact h.setTbc (by simp)
  · split
    · exact h.setTbc (by simp)
    · exact h

theorem tbcOnDriveline : Within s0 (tbcOnDriveline s) := h.preBrakeTest.tbcFinish

/-! ### The driveline record, the gear window and the fault table -/

theorem scPublish (d : Driveline) : Within s0 (scPublish d s) := by
  unfold Machine.scPublish
  split
  · exact h
  · exact (h.setSc (by simp)).tbcOnDriveline

theorem evalAbove : Within s0 (evalAbove s) := h.scPublish _

theorem postAbove (b : Bool) : Within s0 (postAbove b s) := by
  unfold Machine.postAbove
  split
  · exact h.post _ _ _
  · exact h

theorem scWindow (always : Bool) : Within s0 (scWindow always s) := by
  unfold Machine.scWindow
  refine (evalAbove ?_).postAbove _
  dsimp only
  split
  · exact (h.setSc (by simp)).post _ _ _
  · exact h.setSc (by simp)

theorem ftTell (i : Fin 47) : Within s0 (ftTell i s) := by
  unfold Machine.ftTell
  split
  · exact h.scWindow _
  · exact h

theorem modFault (i : Fin 47) (e : FaultEntry) : Within s0 (modFault i e s) := h.same (by simp)

theorem ftStart (i : Fin 47) (d : Nat) : Within s0 (ftStart i d s) := by
  unfold Machine.ftStart
  dsimp only
  split
  · exact h
  all_goals exact ((h.modFault _ _).postAt (faultLevel_le i) _ _).ftTell _

theorem ftEnd (i : Fin 47) : Within s0 (ftEnd i s) := by
  unfold Machine.ftEnd
  dsimp only
  split
  · exact ((h.modFault _ _).post _ _ _).ftTell _
  all_goals exact h

theorem endTimeout : Within s0 (endTimeout s) := by
  unfold Machine.endTimeout ftEndOpt
  split
  · exact (h.setSc (by simp)).ftEnd _
  · exact h.setSc (by simp)

/-! ### The Front Drive Manager -/

theorem fdmChange (new : FrontState) : Within s0 (fdmChange new s) :=
  ((h.setFdm _).writeChan _ _).post _ _ _

theorem fdmGuarded (dwell : Bool) (new : FrontState) : Within s0 (fdmGuarded dwell new s) := by
  unfold Machine.fdmGuarded
  split
  · exact h.fdmChange _
  all_goals exact h.setFdm _

theorem fdmAct : Within s0 (fdmAct s) := by
  unfold Machine.fdmAct
  dsimp only
  split
  · split
    · exact h.fdmChange _
    · split
      · exact h.fdmGuarded _ _
      · exact h
  · split
    · exact h.fdmChange _
    · split
      · exact h.fdmChange _
      · split
        · exact h.fdmGuarded _ _
        · exact h
  · split
    · exact h.fdmGuarded _ _
    · exact h
  · split
    · exact h
    · exact h.fdmGuarded _ _

theorem fdmEvaluate (motion : Bool) : Within s0 (fdmEvaluate motion s) := by
  unfold Machine.fdmEvaluate
  refine fdmAct (setFdm ?_ _)
  split
  · exact h.same (by simp)
  · exact h

theorem fdmForce : Within s0 (fdmForce s) := by
  unfold Machine.fdmForce
  split
  · exact h
  · exact h.fdmChange _

theorem fdmOnSupply : Within s0 (fdmOnSupply s) := by
  unfold Machine.fdmOnSupply
  split
  · exact (h.setFdm _).fdmForce
  · exact h.setFdm _

theorem fdmOnForced : Within s0 (fdmOnForced s) := (h.setFdm _).fdmForce

theorem fdmOnLoss : Within s0 (fdmOnLoss s) := by
  unfold Machine.fdmOnLoss
  split
  · exact h
  · exact (h.setFdm _).fdmForce

theorem fdmWaitExpiry : Within s0 (fdmWaitExpiry s) := (h.post _ _ _).fdmChange _

/-! ### The Hitch Controller -/

theorem hcChange (new ret : HitchState) : Within s0 (hcChange new ret s) := by
  have hd : Within s0 (hcDrive { s with hc := hcEnter new ret s.time s.hc }) := 
    (h.setHc (hcEnter new ret s.time s.hc)).same (by simp)
  exact hd.post _ _ _

theorem hcHold : Within s0 (hcHold s) := by
  unfold Machine.hcHold
  split
  iterate 4 exact h.hcChange _ _
  all_goals exact h

theorem hcUnhold : Within s0 (hcUnhold s) := by
  unfold Machine.hcUnhold
  split
  · exact h.hcChange _ _
  · exact h

theorem hcChangeOrHold (new : HitchState) : Within s0 (hcChangeOrHold new s) := by
  unfold Machine.hcChangeOrHold
  split <;> exact h.hcChange _ _

theorem hcStop : Within s0 (hcStop s) := by
  unfold Machine.hcStop
  split
  · exact h
  · exact h.hcChange _ _

theorem hcExitTest : Within s0 (hcExitTest s) := by
  unfold Machine.hcExitTest
  split
  · exact (h.setHc _).hcChange _ _
  · exact h

theorem hcOnSnapshot : Within s0 (hcOnSnapshot s) := by
  unfold Machine.hcOnSnapshot
  dsimp only
  split
  · exact h.setHc _
  · exact (h.setHc _).hcStop

theorem hcOnStale : Within s0 (hcOnStale s) := (h.setHc _).hcStop

theorem hcStallTest : Within s0 (hcStallTest s) := by
  unfold Machine.hcStallTest
  split
  · exact h.setHc _
  · exact h.setHc _
  · split
    · exact h.setHc _
    · split
      · exact h.setHc _
      · split
        · exact (h.setHc _).hcStop.ftStart _ _
        · exact h

theorem hcDraftAct : Within s0 (hcDraftAct s) := by
  unfold Machine.hcDraftAct
  split
  · exact (h.same (t := hcPass s) (by simp)).hcStallTest
  iterate 3 exact h.same (by simp)
  all_goals exact h

theorem hcApplyPending : Within s0 (hcApplyPending s) := by
  unfold Machine.hcApplyPending
  split
  · exact (h.setHc _).hcHold
  · exact h

theorem hcStoppedResult : Within s0 (hcStoppedResult s) := by
  unfold Machine.hcStoppedResult
  split
  · exact (h.ftEnd _).hcExitTest
  · exact h

theorem hcDraftResult (d : Int) (valid : Bool) : Within s0 (hcDraftResult d valid s) :=
  (h.setHc _).hcApplyPending.hcStoppedResult.hcDraftAct

theorem hcShock : Within s0 (hcShock s) := by
  unfold Machine.hcShock
  split
  · exact ((h.hcChange _ _).setHc _).post _ _ _
  · exact h.setHc _
  all_goals exact h

theorem hcOnSupply : Within s0 (hcOnSupply s) := by
  unfold Machine.hcOnSupply
  split
  · exact (h.setHc _).hcHold
  · exact (h.setHc _).hcUnhold

theorem hcOnLoss : Within s0 (hcOnLoss s) := by
  unfold Machine.hcOnLoss
  split
  · exact h
  · exact (h.setHc _).hcHold

theorem hcOnResume : Within s0 (hcOnResume s) := (h.setHc _).hcUnhold

theorem hcOnForced (i : Fin 14) : Within s0 (hcOnForced i s) := (h.setHc _).hcStop

theorem hcOnRestored (i : Fin 14) : Within s0 (hcOnRestored i s) := (h.setHc _).hcExitTest

/-! ### The Shift Controller -/

theorem enterIdle : Within s0 (enterIdle s) := (h.setSc (by simp)).scPublish _

theorem emptyQueue : Within s0 (emptyQueue s) := h.setSc (by simp)

theorem enterAborting : Within s0 (enterAborting s) := (((h.writeClutches _).setSc (by simp)).scPublish _).evalAbove

theorem enterRecovering (i : Option (Fin 47)) (run : ShiftRun) (cmd : Vector Nat 9) :
    Within s0 (enterRecovering i run cmd s) :=
  ((h.setSc (by simp)).writeClutches _).scPublish _

theorem stepTimedOut (run : ShiftRun) (st : ProfileStep) (cmd : Vector Nat 9) : Within s0 (stepTimedOut run st cmd s) := by
  unfold Machine.stepTimedOut
  extract_lets i detail u v
  have hu : Within s0 u := h.ftStart _ _
  split
  · have hv : Within s0 v := (hu.emptyQueue.post _ _ _).enterAborting
    exact hv.setSc ⟨le_rfl, rfl⟩
  · exact hu.enterRecovering _ _ _

theorem shiftComplete {k : State → State} (hk : ∀ {s}, Within s0 s → Within s0 (k s)) (run : ShiftRun) :
    Within s0 (shiftComplete k run s) :=
  hk (((((h.writeClutches _).setSc (by simp)).scPublish _).evalAbove.post _ _ _).postAbove _)

theorem modStepping {k : State → State} (hk : ∀ {s}, Within s0 s → Within s0 (k s)) (run : ShiftRun) :
    Within s0 (modStepping k run s) := by
  unfold Machine.modStepping applyMod
  split
  · exact ((h.setSc (by simp)).writeClutches _).scPublish _
  · exact h.shiftComplete hk _
  · exact h.stepTimedOut _ _ _

theorem recoverySucceeds {k : State → State} (hk : ∀ {s}, Within s0 s → Within s0 (k s)) (run : ShiftRun) :
    Within s0 (recoverySucceeds k run s) :=
  hk ((h.writeClutches _).enterIdle.endTimeout.post _ _ _)

theorem recoveryFails (run : ShiftRun) : Within s0 (recoveryFails run s) :=
  (h.enterAborting.endTimeout.ftStart _ _).post _ _ _

theorem modRecovering {k : State → State} (hk : ∀ {s}, Within s0 s → Within s0 (k s)) (run : ShiftRun) :
    Within s0 (modRecovering k run s) := by
  unfold Machine.modRecovering
  dsimp only
  split
  · exact ((h.setSc (by simp)).writeClutches _).recoverySucceeds hk _
  · split
    · exact ((h.setSc (by simp)).writeClutches _).recoveryFails _
    · exact (h.setSc (by simp)).writeClutches _

theorem waitTimers (e : ShiftEntry) : Within s0 (waitTimers e s) := h.setSc (by simp)

theorem enterPending (e : ShiftEntry) : Within s0 (enterPending e s) := ((h.setSc (by simp)).scPublish _).waitTimers _

theorem popHead : Within s0 (popHead s) := h.setSc (by simp)

theorem dropEntry {k : State → State} (hk : ∀ {s}, Within s0 s → Within s0 (k s)) (e : ShiftEntry) (why : DropReason) :
    Within s0 (dropEntry k e why s) := hk (h.post _ _ _).enterIdle

theorem beginShift {k : State → State} (hk : ∀ {s}, Within s0 s → Within s0 (k s)) (d : Dir) (g : Nat) :
    Within s0 (beginShift k d g s) := ((h.setSc (by simp)).scPublish _).modStepping hk _

theorem startResolved {k : State → State} (hk : ∀ {s}, Within s0 s → Within s0 (k s)) (e : ShiftEntry) (t : Nat) :
    Within s0 (startResolved k e t s) := by
  unfold Machine.startResolved
  dsimp only
  split
  · exact hk (h.post _ _ _).enterIdle
  split
  · exact h.dropEntry hk _ _
  split
  · split
    · exact h.dropEntry hk _ _
    · refine beginShift ?_ hk _ _
      split
      · exact h
      · exact h.post _ _ _
  · exact h.beginShift hk _ _

theorem startEntry {k : State → State} (hk : ∀ {s}, Within s0 s → Within s0 (k s)) : Within s0 (startEntry k s) := by
  unfold Machine.startEntry
  split
  · exact h
  · dsimp only
    split
    · exact hk (h.popHead.post _ _ _).enterIdle
    · refine startResolved ?_ hk _ _
      split
      · exact h.popHead
      · exact h.popHead.post _ _ _

theorem pendHeads (n : Nat) : Within s0 (pendHeads n s) := by
  induction n generalizing s with
  | zero => exact h
  | succ n ih =>
    unfold Machine.pendHeads
    split
    · exact h
    · dsimp only
      split
      · exact (h.enterPending _).startEntry fun hs => ih hs
      · exact h.enterPending _

theorem pendNext : Within s0 (pendNext s) := h.pendHeads _

theorem pendingTest : Within s0 (pendingTest s) := by
  unfold Machine.pendingTest
  split
  · exact h
  · dsimp only
    split
    · exact (h.waitTimers _).startEntry pendNext
    · exact h.waitTimers _

theorem dropHead (why : DropReason) : Within s0 (dropHead why s) := by
  unfold Machine.dropHead
  split
  · exact h
  · exact h.popHead.dropEntry pendNext _ _

theorem neutralAct : Within s0 (neutralAct s).2 := by
  unfold Machine.neutralAct
  split
  · split
    · exact h.emptyQueue
    · split
      · exact h.emptyQueue.beginShift pendNext _ _
      · exact h.emptyQueue.enterAborting
  · exact h.emptyQueue.enterAborting.endTimeout
  · exact h.emptyQueue.enterAborting.endTimeout
  · exact h.emptyQueue.enterAborting.endTimeout
  · exact h.emptyQueue

theorem withdraw (run : ShiftRun) : Within s0 (withdraw run s) := by
  unfold Machine.withdraw
  split
  iterate 3 exact h.enterRecovering _ _ _
  · exact h.enterAborting.post _ _ _
  all_goals exact h

theorem scOnSupply : Within s0 (scOnSupply s) := by
  unfold Machine.scOnSupply
  split
  · exact h.pendingTest
  · split
    · split
      · exact h.withdraw _
      · exact h
    · exact h
  all_goals exact h

theorem scOnBrake : Within s0 (scOnBrake s) := by
  unfold Machine.scOnBrake
  dsimp only
  split
  · exact (h.scWindow _).pendingTest
  · exact h.scWindow _

theorem dropAll : Within s0 (dropAll s) := by
  unfold Machine.dropAll
  refine emptyQueue (foldl ?_ _ h)
  exact fun e hs => hs.post _ _ _

theorem scOnLoss : Within s0 (scOnLoss s) := by
  unfold Machine.scOnLoss
  extract_lets u v
  have hi : Within s0 v := by
    show Within s0 (if u.sc.pub.state = .pending then Machine.enterIdle u else u)
    split
    · exact h.dropAll.enterIdle
    · exact h.dropAll
  split
  · exact hi
  · exact hi.neutralAct

theorem scOnForced : Within s0 (scOnForced s) := by
  unfold Machine.scOnForced
  dsimp only
  split
  · split
    · exact h.emptyQueue
    · exact h.emptyQueue.enterAborting
  · exact h.emptyQueue.enterAborting.endTimeout
  · exact h.emptyQueue.enterAborting.endTimeout
  · exact h.emptyQueue.enterAborting.endTimeout
  · exact h.emptyQueue

theorem slipTest : Within s0 (slipTest s) := by
  unfold Machine.slipTest
  split
  · dsimp only
    split
    · exact (h.setSc (by simp)).ftStart _ _
    · exact h.setSc (by simp)
  · exact (h.setSc (by simp)).ftEnd _

theorem scOnMotion : Within s0 (scOnMotion s) := by
  unfold Machine.scOnMotion
  dsimp only
  split
  · exact h.slipTest.ftEnd _
  · exact h.slipTest

theorem modUpdate : Within s0 (modUpdate s) := by
  unfold Machine.modUpdate
  dsimp only
  split
  · exact (h.setSc (by simp)).modStepping pendNext _
  · exact (h.setSc (by simp)).modRecovering pendNext _
  · exact h.setSc (by simp)

theorem dumpEnds : Within s0 (dumpEnds s) := ((h.setSc (by simp)).writeClutches _).enterIdle.endTimeout.pendNext

/-! ### The delivery of brake record publications -/

theorem settle : Within s0 (settle s) := by
  unfold Machine.settle
  generalize Config.deliveryFuel = n
  induction n generalizing s with
  | zero => exact h.setUndelivered 0
  | succ n ih =>
    unfold deliverBrake
    split
    · exact h
    · exact ih ((h.setUndelivered _).scOnBrake.fdmEvaluate _)

/-! ### The Trailer Brake Controller -/

theorem modBrake (g : BrakeRecord → BrakeRecord) : Within s0 (modBrake g s) := h.setTbc (by simp)

theorem tbcSuppEnter : Within s0 (tbcSuppEnter s) := h.modBrake _

theorem checkEnd (o : CheckOutcome) (stage : Nat) : Within s0 (checkEnd o stage s) := by
  unfold Machine.checkEnd
  refine (modBrake ?_ _).post _ _ _
  have hs := (h.setTbc (x := { s.tbc with stage := none, cur := { s.tbc.cur with check := .idle } }) ⟨rfl, rfl⟩).tbcSuppEnter
  dsimp only
  split
  · exact hs.modBrake _
  · exact ((hs.modBrake _).ftStart _ _).ftEnd _
  all_goals exact hs

theorem checkAbort : Within s0 (checkAbort s) := by
  unfold Machine.checkAbort
  split
  · exact h.checkEnd _ _
  · exact h

theorem lowDiscard : Within s0 (lowDiscard s) :=
  (h.setTbc (by simp)).ftEnd _

theorem chargeAct (old : BrakeRecord) : Within s0 (chargeAct old s) := by
  unfold Machine.chargeAct
  dsimp only
  split
  · exact (h.setTbc (by simp)).lowDiscard
  · split
    · exact (h.setTbc (by simp)).lowDiscard
    · exact h

theorem preBrakeMode : Within s0 (preBrakeMode s) := by
  unfold Machine.preBrakeMode
  split
  · exact h.setTbc (by simp)
  · exact h.preBrakeTest

theorem applyMode (m : TrailerMode) (present : Bool) : Within s0 (applyMode m present s) :=
  ((h.checkAbort.modBrake _).preBrakeMode.tbcSuppEnter.chargeAct _).post _ _ _

theorem chargeTest : Within s0 (chargeTest s) := by
  unfold Machine.chargeTest
  dsimp only
  split
  · exact h.setTbc (by simp)
  · exact h

theorem lowReport : Within s0 (lowReport s) := (h.modBrake _).ftStart _ _

theorem lowTest : Within s0 (lowTest s) := by
  have hx : ∀ x, Within s0 { s with tbc := { s.tbc with lowHold := x } } := fun x => h.setTbc (by simp)
  unfold Machine.lowTest
  dsimp only
  split
  · split
    · split
      · exact (hx _).lowReport
      · exact hx _
    · split
      · exact (hx _).ftEnd _
      · exact hx _
  · exact h

theorem lowStale : Within s0 (lowStale s) := by
  unfold Machine.lowStale
  split
  · exact h.setTbc (by simp)
  · exact h

theorem deviationTest : Within s0 (deviationTest s) := by
  have hx : ∀ x, Within s0 { s with tbc := { s.tbc with devHold := x } } := fun x => h.setTbc (by simp)
  unfold Machine.deviationTest
  dsimp only
  split
  · split
    · split
      · exact ((hx _).modBrake _).ftStart _ _
      · exact hx _
    · split
      · exact (hx _).ftEnd _
      · exact hx _
  · exact hx _

theorem checkTest : Within s0 (checkTest s) := by
  unfold Machine.checkTest
  dsimp only
  split
  · exact h
  · split
    · exact h.setTbc (by simp)
    · exact h
  · split
    · exact h.checkEnd _ _
    · split
      · exact h.checkEnd _ _
      · split
        · exact h.checkEnd _ _
        · exact h

theorem tbcPedal (pedal : Nat × Bool) : Within s0 (tbcPedal pedal s) := h.modBrake _

theorem tbcTake : Within s0 (tbcTake s) := (h.modBrake _).tbcPedal _

theorem tbcInvalidate : Within s0 (tbcInvalidate s) := (h.modBrake _).tbcPedal _

theorem tbcSuppMeasure : Within s0 (tbcSuppMeasure s) := h.modBrake _

theorem tbcOnSnapshot : Within s0 (tbcOnSnapshot s) :=
  h.tbcTake.tbcSuppMeasure.chargeTest.deviationTest.lowTest.checkTest.tbcFinish

theorem tbcOnStale : Within s0 (tbcOnStale s) :=
  h.tbcInvalidate.tbcSuppMeasure.deviationTest.lowStale.checkAbort.tbcFinish

theorem policyPark : Within s0 (policyPark s) := (h.applyMode _ _).modBrake _

theorem tbcOnMotion : Within s0 (tbcOnMotion s) := by
  unfold Machine.tbcOnMotion
  extract_lets still u v
  have hu : Within s0 u := by
    show Within s0 (if still = true then s else Machine.checkAbort s)
    split
    · exact h
    · exact h.checkAbort
  have hv : Within s0 v := by
    show Within s0 (if (still && u.tbc.cur.policyOn) = true then Machine.policyPark u else u)
    split
    · exact hu.policyPark
    · exact hu
  exact hv.tbcFinish

theorem tbcOnSupply : Within s0 (tbcOnSupply s) := by
  unfold Machine.tbcOnSupply
  refine tbcFinish ?_
  split
  · exact h.checkAbort
  · exact h

theorem tbcOnForced (i : Fin 14) : Within s0 (tbcOnForced i s) := by
  unfold Machine.tbcOnForced
  extract_lets u
  have hu : Within s0 u := h.checkAbort.modBrake _
  refine tbcFinish ?_
  split
  · exact hu.setTbc ⟨rfl, rfl⟩
  · exact hu

theorem tbcOnLoss : Within s0 (tbcOnLoss s) := by
  unfold Machine.tbcOnLoss
  split
  · exact h.tbcFinish
  · refine tbcFinish ?_
    split
    · exact h.checkAbort
    · split
      · exact h.checkAbort.policyPark
      · exact h.checkAbort.modBrake _

theorem tbcOnResume : Within s0 (tbcOnResume s) := (h.modBrake _).tbcFinish

theorem tbcChargeExpiry : Within s0 (tbcChargeExpiry s) := by
  unfold Machine.tbcChargeExpiry
  extract_lets b u
  have hu : Within s0 u := (h.ftStart _ _).ftEnd _
  have hc : Within s0 { u with tbc := { u.tbc with charge := none, cur := { u.tbc.cur with chargeOpen := false } } } :=
    hu.setTbc ⟨rfl, rfl⟩
  exact hc.tbcFinish

theorem tbcStageExpiry : Within s0 (tbcStageExpiry s) := by
  unfold Machine.tbcStageExpiry
  refine tbcFinish ?_
  split
  · exact h
  all_goals exact h.checkEnd _ _

theorem tbcRunOutExpiry : Within s0 (tbcRunOutExpiry s) := by
  unfold Machine.tbcRunOutExpiry
  exact (h.setTbc (by simp)).tbcFinish

/-! ### The Valve Output Stage and Supply Monitor -/

theorem modChan (i : Fin 14) (g : Chan → Chan) : Within s0 (modChan i g s) := h.same (by simp)

theorem formDrive (i : Fin 14) : Within s0 (formDrive i s) := h.same (by simp)

theorem tellForced (i : Fin 14) : Within s0 (tellForced i s) := by
  unfold Machine.tellForced
  split
  · exact h.scOnForced
  · split
    · exact h.hcOnForced _
    · split
      · exact h.fdmOnForced
      · exact h.tbcOnForced _

theorem tellRestored (i : Fin 14) : Within s0 (tellRestored i s) := by
  unfold Machine.tellRestored
  split
  · exact h
  · split
    · exact h.hcOnRestored _
    · split
      · exact h.setFdm _
      · exact h.tbcFinish

theorem forceChannel (i : Fin 14) (detail : Nat) : Within s0 (forceChannel i detail s) := by
  unfold Machine.forceChannel
  exact ((((h.modChan _ _).formDrive _).ftStart _ _).tellForced _).modChan _ _

theorem releaseChannel (i : Fin 14) : Within s0 (releaseChannel i s) :=
  ((h.modChan _ _).formDrive _).tellRestored _

theorem openTest (i : Fin 14) : Within s0 (openTest i s) := by
  unfold Machine.openTest
  dsimp only
  split
  · split
    · exact h.forceChannel _ _
    · exact h.modChan _ _
  · exact h.modChan _ _

theorem offHold (i : Fin 14) (awaited : Bool) {report : State → State} (hr : ∀ {s}, Within s0 s → Within s0 (report s)) :
    Within s0 (offHold i awaited report s) := by
  unfold Machine.offHold
  dsimp only
  split
  · split
    · exact hr (h.modChan _ _)
    · exact h.modChan _ _
  · exact h.modChan _ _

theorem offTest (i : Fin 14) (off : OffState) : Within s0 (offTest i off s) := by
  unfold Machine.offTest
  split
  · exact h.offHold _ _ fun hs => hs.ftEnd _
  · exact h.offHold _ _ fun hs => hs.ftStart _ _
  · exact h

theorem diagSample (i : Fin 14) (current : Nat) (off : OffState) : Within s0 (diagSample i current off s) := by
  unfold Machine.diagSample
  dsimp only
  split
  · exact (h.modChan _ _).offTest _ _
  · exact (h.modChan _ _).openTest _

theorem supplyChange (new : Supply) : Within s0 (supplyChange new s) := by
  unfold Machine.supplyChange
  refine ((scOnSupply ?_).fdmOnSupply.hcOnSupply).tbcOnSupply
  have hp := fun v1 v2 => ((h.setVo { s.vo with supply := new, supplyHold := none }).formDrive chFront).post .supplyChanged v1 v2
  split
  · exact (hp _ _).ftStart _ _
  · exact (hp _ _).ftEnd _

theorem voOnSnapshot : Within s0 (voOnSnapshot s) := by
  unfold Machine.voOnSnapshot
  dsimp only
  split
  · split
    · exact h.supplyChange _
    · exact h.setVo _
  · exact h.setVo _

/-! ### The Measurement Unit -/

theorem draftCount (l r : Bool) : Within s0 (draftCount l r s) := by
  unfold Machine.draftCount
  dsimp only
  split
  · split
    · exact (h.setMu _).ftEnd _
    · exact h.setMu _
  · split
    · exact (h.setMu _).ftStart _ _
    · exact h.setMu _

theorem draftResult (d : Int) (l r : Bool) : Within s0 (draftResult d l r s) :=
  ((h.setMu _).draftCount _ _).hcDraftResult _ _

theorem draftEnded (e : Nat) (l r : Int) : Within s0 (draftEnded e l r s) := by
  unfold Machine.draftEnded
  dsimp only
  split
  · exact h.setMu _
  · split
    · split
      · exact h.setMu _
      · exact (h.setMu _).draftResult _ _ _
    · exact (h.setMu _).draftResult _ _ _

theorem fastSample (l r : Int) : Within s0 (fastSample l r s) := by
  unfold Machine.fastSample
  dsimp only
  split
  · exact h.setMu _
  · split
    · exact (h.setMu _).hcShock
    · exact h.setMu _

theorem roleReport (r : Fin 16) (e : RoleEntry) (old new : RoleMem) : Within s0 (roleReport r e old new s) := by
  unfold Machine.roleReport
  split
  · split
    · split
      · exact h.ftEnd _
      · exact h
    · split
      · exact h.ftStart _ _
      · exact h
  · exact h

theorem publishSnapshot (run : ScanRun) : Within s0 (publishSnapshot run s) :=
  foldl (fun _ hs => hs.roleReport _ _ _ _) _ (h.setMu _)

theorem afterPublication : Within s0 (afterPublication s) := by
  unfold Machine.afterPublication
  split
  · exact ((h.setMu _).ftEnd _).voOnSnapshot.hcOnSnapshot.tbcOnSnapshot
  · exact (h.setMu _).post _ _ _

theorem completeRun (run : ScanRun) : Within s0 (completeRun run s) := (h.publishSnapshot _).afterPublication

theorem startRun : Within s0 (startRun s) := by
  unfold Machine.startRun
  dsimp only
  split
  · exact h.setMu _
  · exact h.completeRun _

theorem nextRun : Within s0 (nextRun s) := by
  unfold Machine.nextRun
  split
  · exact h.startRun
  · exact h

theorem stepConverted (run : ScanRun) (raw : Nat) : Within s0 (stepConverted run raw s) := by
  unfold Machine.stepConverted
  dsimp only
  split
  · exact h.setMu _
  · exact (h.completeRun _).nextRun

theorem voOnStale : Within s0 (voOnStale s) := h.same (by simp)

theorem scanStale : Within s0 (scanStale s) := ((h.setMu _).ftStart _ _).voOnStale.hcOnStale.tbcOnStale

theorem trackStart : Within s0 (trackStart s) := by
  unfold Machine.trackStart
  split
  · exact h.startRun
  · exact h

theorem dropUnassigned : Within s0 (dropUnassigned s) := by
  refine foldl (fun r hs => ?_) _ h
  split
  · exact hs
  · exact (hs.setMu _).ftEnd _

/-! ### The Motion Estimator -/

theorem plausibleReport (i : Fin 47) (d : Nat) (p : Plausible) : Within s0 (plausibleReport i d p s) := by
  unfold Machine.plausibleReport
  split
  · exact h.ftStart _ _
  · split
    · exact h.ftEnd _
    · exact h

theorem plausibility (v : Speeds) : Within s0 (plausibility v s) :=
  (((h.setMe (by exact id)).plausibleReport _ _ _).plausibleReport _ _ _).plausibleReport _ _ _

omit h in
/-- The slip ring keeps its eight places (R68). -/
theorem ringAfter_length {s : State} (sample : Option Nat) (hr : s.me.ring.length ≤ 8) : (ringAfter s sample).1.length ≤ 8 := by
  unfold ringAfter
  split
  · show (ringAppend _ _).length ≤ 8
    unfold ringAppend
    split <;> simp <;> omega
  · dsimp only
    split
    · exact Nat.zero_le 8
    · exact hr

theorem formMotion (v : Speeds) : Within s0 (formMotion v s) := h.setMe (ringAfter_length _)

theorem motionUpdate : Within s0 (motionUpdate s) :=
  ((((h.setMe (by exact id)).plausibility _).formMotion _).scOnMotion.fdmEvaluate _).tbcOnMotion

theorem takeEngine (speed torque : Nat) (oil : Int) : Within s0 (takeEngine speed torque oil s) := by
  unfold Machine.takeEngine
  dsimp only
  split
  · exact (h.setMe (by exact id)).ftEnd _
  · exact h.setMe (by exact id)

theorem engineExpires : Within s0 (engineExpires s) := (h.setMe (by exact id)).ftStart _ _

/-! ### CLEAR_FAULT -/

theorem clearEntry (i : Fin 47) : Within s0 (clearEntry i s) := by
  unfold Machine.clearEntry
  dsimp only
  split
  · exact (h.modFault _ _).releaseChannel _
  · exact (h.modFault _ _).ftTell _

theorem clearSelected (sel : Selector) : Within s0 (clearSelected sel s).2 := by
  unfold Machine.clearSelected
  generalize List.finRange 47 = l
  suffices key : ∀ acc : Nat × State, Within s0 acc.2 → Within s0 (l.foldl (clearStep sel) acc).2 from key (0, s) h
  induction l with
  | nil => exact fun _ ha => ha
  | cons i l ih =>
    intro acc ha
    refine ih _ ?_
    unfold clearStep
    split
    · exact ha.clearEntry _
    · exact ha

end

end Within

end Sys2Proof.Machine
end

section
/-! SUPPORT. What the owning block's answer to a request may do to the notice queue, the tables and the PC, kind by kind of the
catalogue (R7 step 4, R14). Most answers stay `Within` the state they are given; the few that write the LP, the PC or a table
themselves are said one by one. -/

namespace Sys2Proof.Machine

open Sys2Proof

/-! ### Answers within the state they are given -/

theorem refuse_after (st : Status) (s : State) : (refuse st s).after = s := rfl

theorem Within.refused (st : Status) (s : State) : Within s (refuse st s).after := .refl s

theorem Within.refusedCondition (c : Nat) (s : State) : Within s (refuseCondition c s).after := .refl s

theorem Within.configOnly {s after : State} (h : Within s after) (ok : Bool) (body : List Byte) :
    Within s (configOnly s ok body after).after := by
  unfold Machine.configOnly
  split
  · exact .refl s
  · split
    · exact h
    · exact .refl s

theorem Within.unlessBlocked {s : State} {go : Answer} (h : Within s go.after) (cls : FaultClass) :
    Within s (unlessBlocked cls s go).after := by
  unfold Machine.unlessBlocked
  split
  · exact .refl s
  · exact h

/-- An answer of a block after its checks of the part and link states. -/
theorem Within.checked {c : Prop} [Decidable c] {s : State} {st : Status} {go : Answer} (h : Within s go.after) :
    Within s (if c then refuse st s else go).after := by
  split
  · exact .refl s
  · exact h

namespace Within

variable (f : Request) (s : State)

theorem reqRead : Within s (reqRead f s).after := by
  unfold Machine.reqRead
  split
  · exact .refl s
  · split <;> exact .refl s

theorem reqCfgScanStep : Within s (reqCfgScanStep f s).after := ((refl s).setMu _).dropUnassigned.configOnly _ _

theorem reqCfgRole : Within s (reqCfgRole f s).after := ((refl s).setMu _).configOnly _ _

theorem reqCfgDraft : Within s (reqCfgDraft f s).after := ((refl s).setMu _).configOnly _ _

theorem reqCfgSpeedInput : Within s (reqCfgSpeedInput f s).after := by
  refine Within.configOnly ?_ _ _
  split
  · exact (refl s).setMu _
  · exact .refl s

theorem reqScanStart : Within s (reqScanStart f s).after := (((refl s).setMu _).setMu _).startRun.configOnly _ _

theorem reqScanStop : Within s (reqScanStop f s).after := by
  refine Within.configOnly ?_ _ _
  split
  · exact (refl s).setMu _
  · exact .refl s

theorem reqEngineInfo : Within s (reqEngineInfo f s).after := (refl s).takeEngine _ _ _

theorem reqCfgOutput : Within s (reqCfgOutput f s).after := by
  unfold Machine.reqCfgOutput
  dsimp only
  split
  · exact (((refl s).modChan _ _).formDrive _).configOnly _ _
  · exact (refl s).configOnly _ _

theorem reqCfgSupply : Within s (reqCfgSupply f s).after := ((refl s).setVo _).configOnly _ _

theorem reqCfgGear : Within s (reqCfgGear f s).after := ((refl s).setSc (by simp)).configOnly _ _

theorem reqCfgProfileMap : Within s (reqCfgProfileMap f s).after := ((refl s).setSc (by simp)).configOnly _ _

theorem reqCfgShift : Within s (reqCfgShift f s).after := ((refl s).setSc (by simp)).configOnly _ _

theorem reqNeutral : Within s (reqNeutral f s).after := by
  refine checked (go := ⟨_, _, (Machine.neutralAct s).2⟩) ?_
  exact (refl s).neutralAct

theorem reqCfgFront : Within s (reqCfgFront f s).after := by
  unfold Machine.reqCfgFront
  split
  · exact (refl s).setFdm _
  · exact .refl s

theorem takeFrontMode (m : FrontMode) : Within s (takeFrontMode m s).after := (refl s).setFdm _

theorem reqFrontMode : Within s (reqFrontMode f s).after := by
  refine checked (checked ?_)
  split
  · exact .refl s
  · exact takeFrontMode _ _
  · exact (takeFrontMode _ _).unlessBlocked _

theorem reqCfgHitch : Within s (reqCfgHitch f s).after := by
  unfold Machine.reqCfgHitch
  split
  · exact (refl s).setHc _
  · exact .refl s

theorem matchTest {s0 s : State} (h : Within s0 s) : Within s0 (matchTest s) := by
  unfold Machine.matchTest
  split
  · exact h.hcChangeOrHold _
  · exact h

theorem takeHitchSet (slip : Bool) : Within s (takeHitchSet f slip s).after := ((refl s).setHc _).matchTest

theorem reqHitchSet : Within s (reqHitchSet f s).after := by
  refine checked (checked ?_)
  split
  · exact .refl s
  · exact (takeHitchSet _ _ _).unlessBlocked _

theorem modeHeadland : Within s (modeHeadland s) := by
  unfold Machine.modeHeadland
  split
  · exact (refl s).hcChangeOrHold _
  iterate 3 exact (refl s).hcChange _ _
  · exact (refl s).setHc _
  all_goals exact .refl s

theorem modeTransport : Within s (modeTransport s) := by
  unfold Machine.modeTransport
  split
  · exact (refl s).hcChangeOrHold _
  iterate 3 exact (refl s).hcChange _ _
  · exact ((refl s).setHc _).setHc _
  all_goals exact .refl s

theorem modeWork : Within s (modeWork s) := by
  unfold Machine.modeWork
  split
  iterate 2 exact (refl s).hcChange _ _
  · split
    · exact (refl s).setHc _
    · exact .refl s
  all_goals exact .refl s

theorem hitchModeAct (m : HitchMode) : Within s (hitchModeAct m s) := by
  cases m
  · exact modeWork s
  · exact modeHeadland s
  · exact modeTransport s

theorem reqHitchMode : Within s (reqHitchMode f s).after := by
  refine checked (checked ?_)
  split
  · exact .refl s
  · exact unlessBlocked (go := ⟨_, _, Machine.hitchModeAct _ s⟩) (hitchModeAct s _) _

theorem reqHitchHold : Within s (reqHitchHold f s).after := by
  unfold Machine.reqHitchHold
  split
  · exact .refl s
  · exact (refl s).setHc _

theorem releaseHold : Within s (releaseHold s) := ((refl s).setHc _).hcUnhold

theorem reqHitchRelease : Within s (reqHitchRelease f s).after := by
  refine checked (checked (checked (go := ⟨_, _, Machine.releaseHold s⟩) ?_))
  exact releaseHold s

theorem takeTrailerMode (m : TrailerMode) (present : Bool) : Within s (takeTrailerMode m present s).after := by
  unfold Machine.takeTrailerMode
  dsimp only
  split
  · exact .refl s
  · exact ((refl s).applyMode _ _).tbcFinish

theorem reqTrailerMode : Within s (reqTrailerMode f s).after := by
  refine checked (checked ?_)
  split
  · split
    · exact .refl s
    · exact takeTrailerMode _ _ _
  · exact .refl s

theorem reqTrailerHand : Within s (reqTrailerHand f s).after := by
  unfold Machine.reqTrailerHand
  split
  · exact .refl s
  · exact ((refl s).modBrake _).tbcFinish

theorem judgeLineCheck : Within s (judgeLineCheck s).after := by
  unfold Machine.judgeLineCheck
  repeat' split
  iterate 4 exact .refl s
  exact ((refl s).setTbc (by simp)).tbcSuppEnter.tbcFinish

theorem reqLineCheck : Within s (reqLineCheck f s).after :=
  checked (checked (checked ((judgeLineCheck s).unlessBlocked _)))

theorem reqClearFault : Within s (reqClearFault f s).after := by
  unfold Machine.reqClearFault
  split
  · exact .refl s
  · exact (refl s).clearSelected _

end Within

/-! ### Answers that write the queue, a table, the LP or the PC themselves -/

/-- RESUME, from the state with the link as it leaves it. -/
theorem reqResume_within (f : Request) (s : State) :
    ∃ link, Within { s with lp := { s.lp with link := link } } (reqResume f s).after := by
  unfold reqResume
  split
  · exact ⟨.up, (((Within.refl _).modFault _ _).setFdm _).hcOnResume.tbcOnResume⟩
  · exact ⟨s.lp.link, .refl s⟩

section
variable {s0 s : State} (h : Within s0 s)
include h

theorem startMeasure_within : Within s0 (startMeasure s) := (h.setMu _).nextRun

theorem startValves_within : Within s0 (startValves s) := (h.setVo _).ftStart _ _

theorem startMotion_within : Within s0 (startMotion s) := h.setMe (by simp)

theorem startShiftCtl_within : Within s0 (startShiftCtl s) := by
  have hc : Within s { s with sc := clearShift s.time s.sc, tbc := clearTrailer s.time s.tbc } :=
    ⟨⟨[], by simp, rfl⟩, rfl, Nat.zero_le _, rfl, rfl, rfl, id⟩
  exact ((h.trans hc).writeClutches _).scWindow _

theorem startFront_within : Within s0 (startFront s) := h.setFdm _

theorem startHitch_within : Within s0 (startHitch s) := h.setHc _

theorem startTrailer_within : Within s0 (startTrailer s) := by
  unfold startTrailer
  extract_lets a u
  have ha : Within s0 a := (h.setTbc (x := clearTrailer s.time s.tbc) ⟨rfl, rfl⟩).tbcForm
  have hu : Within s0 u := (ha.writeChan _ _).writeChan _ _
  exact (hu.setTbc (x := { u.tbc with pub := u.tbc.cur }) ⟨rfl, rfl⟩).scWindow _

end

/-- START, from the state with RUN entered and the link UP under supervision. -/
theorem startPart_within (s : State) :
    Within (restartSupervision { s with pc := { s.pc with part := .run }, lp := { s.lp with link := .up } }) (startPart s) :=
  startTrailer_within (startHitch_within (startFront_within (startShiftCtl_within (startMotion_within (startValves_within
    (startMeasure_within (.refl _)))))))

/-- The shift queue of an accepted SHIFT or SHUTTLE takes one entry more at most, and none beyond its capacity (R113, R115). -/
def Enqueued (s t : State) : Prop :=
  ∃ q, (q.length ≤ s.sc.queue.length ∨ q.length ≤ Config.shiftCap) ∧ Within { s with sc := { s.sc with queue := q } } t

theorem Enqueued.refl (s : State) : Enqueued s s := ⟨s.sc.queue, .inl le_rfl, .refl s⟩

theorem Enqueued.unlessBlocked {s : State} {go : Answer} (h : Enqueued s go.after) (cls : FaultClass) :
    Enqueued s (unlessBlocked cls s go).after := by
  unfold Machine.unlessBlocked
  split
  · exact .refl s
  · exact h

theorem acceptShift_enqueued (kind : EntryKind) (d : Dir) (raw : Nat) (s : State) :
    Enqueued s (acceptShift kind d raw s).after := by
  unfold acceptShift
  split
  · exact .refl s
  · split
    · exact .refl s
    · split
      · exact .refl s
      · rename_i g _ _ _
        refine ⟨s.sc.queue ++ [⟨kind, g, d, s.time⟩], .inr ?_, ?_⟩
        · rw [List.length_append, List.length_singleton]; omega
        · show Within _ (appendEntry _ s)
          unfold appendEntry
          dsimp only
          split
          · exact (Within.refl _).pendNext
          · exact .refl _

theorem acceptUnlessAbove_enqueued (d : Dir) (raw : Nat) (s : State) : Enqueued s (acceptUnlessAbove d raw s).after := by
  unfold acceptUnlessAbove
  dsimp only
  split
  · exact .refl s
  · exact acceptShift_enqueued _ _ _ _

theorem reqShift_enqueued (f : Request) (s : State) : Enqueued s (reqShift f s).after := by
  unfold reqShift
  split
  · exact .refl s
  split
  · exact .refl s
  split
  · exact .refl s
  refine Enqueued.unlessBlocked ?_ _
  unfold judgeShift
  dsimp only
  split
  · exact acceptUnlessAbove_enqueued _ _ _
  split
  · exact .refl s
  split
  · exact acceptUnlessAbove_enqueued _ _ _
  · exact .refl s

theorem reqShuttle_enqueued (f : Request) (s : State) : Enqueued s (reqShuttle f s).after := by
  unfold reqShuttle
  split
  · exact .refl s
  split
  · exact .refl s
  refine Enqueued.unlessBlocked ?_ _
  unfold judgeShuttle
  dsimp only
  split
  · exact .refl s
  split
  · exact .refl s
  · exact acceptShift_enqueued _ _ _ _

/-- CFG_PROFILE_STEP writes one profile at most, of twelve steps at most where they were so before (R101, R104). -/
theorem reqCfgProfileStep_after (f : Request) (s : State) :
    (reqCfgProfileStep f s).after = s ∨ ∃ (p : Fin 8) (steps : List ProfileStep),
      ((s.sc.profiles[p]).length ≤ 12 → steps.length ≤ 12) ∧
      (reqCfgProfileStep f s).after = { s with sc := { s.sc with profiles := s.sc.profiles.set p steps } } := by
  have hat : ∀ p, profileAt f s = some p → f.u8 1 ≤ 11 := by
    intro p hp
    unfold profileAt at hp
    split at hp
    · split at hp
      · rename_i h; exact h.1
      · cases hp
    · cases hp
  unfold reqCfgProfileStep
  split
  · unfold reqProfileTruncate
    split
    · exact .inl rfl
    split
    · rename_i p _
      refine .inr ⟨p, (s.sc.profiles[p]).take (f.u8 1), fun h => ?_, rfl⟩
      rw [List.length_take]; omega
    · exact .inl rfl
  · unfold reqProfileWrite
    split
    · exact .inl rfl
    split
    · exact .inl rfl
    split
    · rename_i p st hp _
      refine .inr ⟨p, putStep s.sc.profiles[p] (f.u8 1) st, fun h => ?_, rfl⟩
      have h11 := hat p hp
      unfold profileAt at hp
      split at hp
      · split at hp
        · rename_i h1 h2
          cases hp
          unfold putStep
          split
          · simpa using h
          · rw [List.length_append, List.length_singleton]; omega
        · cases hp
      · cases hp
    · exact .inl rfl

/-- CFG_LIMITS and LOCK_LIMITS write the PC alone, in CONFIG and unlocked, or set the lock (R30, R31). -/
theorem reqCfgLimits_after (f : Request) (s : State) :
    (reqCfgLimits f s).after = s
      ∨ s.pc.lock = false ∧ (reqCfgLimits f s).after = { s with pc := { s.pc with limits := limitsOf f } } := by
  unfold reqCfgLimits
  split
  · exact .inl rfl
  split
  · exact .inl rfl
  split
  · rename_i h _
    exact .inr ⟨by simpa using h, rfl⟩
  · exact .inl rfl

theorem reqLockLimits_after (f : Request) (s : State) :
    (reqLockLimits f s).after = s ∨ (reqLockLimits f s).after = { s with pc := { s.pc with lock := true } } := by
  unfold reqLockLimits
  split
  · exact .inr rfl
  · exact .inl rfl

/-- SET_NOTICE_LEVEL and CFG_LINK write the LP's settings, with ATTN evaluated again (R20, R21). -/
theorem reqSetNoticeLevel_after (f : Request) (s : State) :
    (reqSetNoticeLevel f s).after = s ∨ (reqSetNoticeLevel f s).after = setThreshold (f.u8 0) s := by
  unfold reqSetNoticeLevel
  split
  · exact .inr rfl
  · exact .inl rfl

theorem reqCfgLink_after (f : Request) (s : State) :
    (reqCfgLink f s).after = s ∨ ∃ tl p,
      (reqCfgLink f s).after = setThreshold (f.u8 3) { s with lp := { s.lp with tLink := tl, policy := p } } := by
  unfold reqCfgLink
  split
  · exact .inl rfl
  split
  · exact .inl rfl
  split
  · split
    · exact .inr ⟨s.lp.tLink, s.lp.policy, rfl⟩
    · exact .inl rfl
  · exact .inr ⟨_, _, rfl⟩

/-- CFG_TRAILER and CFG_CURVE_POINT write the TBC's settings within their ranges (R179, R180). -/
theorem reqCfgTrailer_after (f : Request) (s : State) :
    (reqCfgTrailer f s).after = s ∨ 1 ≤ f.u16 0 ∧
      (reqCfgTrailer f s).after = { s with tbc := { s.tbc with pBrakeOn := f.u16 0, pPre := f.u16 2, pSafe := f.u16 4 } } := by
  unfold reqCfgTrailer configOnly
  split
  · exact .inl rfl
  split
  · rename_i h
    simp only [inRange, Bool.and_eq_true, decide_eq_true_eq] at h
    exact .inr ⟨h.1.1.1, rfl⟩
  · exact .inl rfl

theorem reqCfgCurvePoint_after (f : Request) (s : State) :
    (reqCfgCurvePoint f s).after = s ∨ ∃ c, c.length ≤ 8 ∧
      (reqCfgCurvePoint f s).after = { s with tbc := { s.tbc with curve := c } } := by
  unfold reqCfgCurvePoint configOnly
  dsimp only
  split
  · exact .inl rfl
  split
  · rename_i h
    simp only [inRange, Bool.and_eq_true, decide_eq_true_eq] at h
    obtain ⟨⟨⟨hn, _⟩, _⟩, _⟩ := h
    refine .inr ⟨_, ?_, rfl⟩
    rw [List.length_append, List.length_take, List.length_singleton]
    omega
  · exact .inl rfl

end Sys2Proof.Machine
end

section
/-! SUPPORT. The bounds of the queues and tables, the LP's losses and the PC through one request and one event, for every command at
once: `Handled` says what the answer to a kind of request may do, and every kind of the catalogue is `Handled` (R14). -/

namespace Sys2Proof.Machine

open Sys2Proof

/-! ### The LP while notices are posted -/

/-- The queue of the LP keeps its capacity, and ATTN is what the queue and the threshold give (R17, R20). -/
def LpBounded (lp : LinkPort) : Prop :=
  lp.notices.length ≤ Config.noticeCap ∧ lp.attn = attnOf lp.threshold lp.notices

/-- What posting keeps in the LP: all but the queue, its flags and ATTN. -/
def LpPosted (a b : LinkPort) : Prop :=
  b = { a with notices := b.notices, lost := b.lost, lostMarker := b.lostMarker, attn := b.attn }

/-- Between `a` and `b` the notices-lost flag and its marker are set by a lost notice only, which leaves the queue full but
where FETCH_NOTICE (kind 4) shortens it (R17, R18). -/
def Losses (k : Byte) (a b : LinkPort) : Prop :=
  (∃ more : Bool, b.lost = (a.lost || more) ∧ b.lostMarker = (a.lostMarker || more)
      ∧ (more = true → k = 4 ∨ 16 ≤ b.notices.length)) ∧
    (k = 4 ∨ a.notices.length ≤ b.notices.length)

theorem LpPosted.refl (a : LinkPort) : LpPosted a a := rfl

theorem LpPosted.trans {a b c : LinkPort} (h : LpPosted a b) (h' : LpPosted b c) : LpPosted a c := by
  unfold LpPosted at *
  rw [h', h]

theorem Losses.none {k : Byte} {a b : LinkPort} (h : b.lost = a.lost ∧ b.lostMarker = a.lostMarker)
    (hn : k = 4 ∨ a.notices.length ≤ b.notices.length) : Losses k a b :=
  ⟨⟨false, by simp [h.1], by simp [h.2], by simp⟩, hn⟩

theorem Losses.refl (k : Byte) (a : LinkPort) : Losses k a a := .none ⟨rfl, rfl⟩ (.inr le_rfl)

theorem Losses.trans {k : Byte} {a b c : LinkPort} (h : Losses k a b) (h' : Losses k b c) : Losses k a c := by
  obtain ⟨⟨m, hl, hm, hf⟩, hn⟩ := h
  obtain ⟨⟨m', hl', hm', hf'⟩, hn'⟩ := h'
  refine ⟨⟨m || m', by rw [hl', hl, Bool.or_assoc], by rw [hm', hm, Bool.or_assoc], fun x => ?_⟩,
    hn.elim .inl fun hn => hn'.imp_right hn.trans⟩
  rcases Bool.or_eq_true_iff.1 x with x | x
  · exact (hf x).elim .inl fun hf => hn'.imp_right hf.trans
  · exact hf' x

/-- An offer shortens no queue (R17). -/
theorem offer_length_ge (n : Notice) (q : List Notice) : q.length ≤ (offer n q).1.length := by
  unfold offer
  split
  · simp
  · split
    · rw [List.length_append, List.length_singleton, List.length_eraseP]
      split <;> omega
    · exact le_rfl

/-- An offer loses a notice at a full queue only (R17). -/
theorem offer_lost (n : Notice) (q : List Notice) (h : (offer n q).2 = true) : 16 ≤ q.length := by
  unfold offer at h
  split at h
  · cases h
  · rename_i hl
    exact Nat.le_of_not_lt hl

theorem offerNotice_losses (k : Byte) (n : Notice) (lp : LinkPort) : Losses k lp (offerNotice n lp) :=
  ⟨⟨(offer n lp.notices).2, rfl, rfl, fun h => .inr ((offer_lost n _ h).trans (offer_length_ge n _))⟩,
    .inr (offer_length_ge n _)⟩

theorem offerAll_losses (k : Byte) (ns : List Notice) (lp : LinkPort) : Losses k lp (offerAll ns lp) := by
  induction ns generalizing lp with
  | nil => exact .refl k lp
  | cons n ns ih => exact (offerNotice_losses k n lp).trans (ih _)

theorem offerAll_posted (ns : List Notice) (lp : LinkPort) : LpPosted lp (offerAll ns lp) := by
  induction ns generalizing lp with
  | nil => exact .refl lp
  | cons n ns ih => exact LpPosted.trans (b := offerNotice n lp) rfl (ih _)

theorem offerAll_bounded {ns : List Notice} (hn : ∀ n ∈ ns, n.level ≤ 3) {lp : LinkPort} (h : LpBounded lp) :
    LpBounded (offerAll ns lp) := by
  induction ns generalizing lp with
  | nil => exact h
  | cons n ns ih =>
    exact ih (fun m hm => hn m (by simp [hm])) ⟨offer_length (hn n (by simp)) h.1, offerNotice_attn n lp⟩

/-! ### What every event keeps -/

theorem Within.lpBounded {s t : State} (h : Within s t) (hb : LpBounded s.lp) : LpBounded t.lp := by
  obtain ⟨ns, hn, e⟩ := h.lp
  rw [e]
  exact offerAll_bounded hn hb

theorem Within.losses {s t : State} (h : Within s t) (k : Byte) : Losses k s.lp t.lp := by
  obtain ⟨ns, _, e⟩ := h.lp
  rw [e]
  exact offerAll_losses k ns _

theorem Within.posted {s t : State} (h : Within s t) : LpPosted s.lp t.lp := by
  obtain ⟨ns, _, e⟩ := h.lp
  rw [e]
  exact offerAll_posted ns _

theorem Bounded.lp {s : State} (h : Bounded s) : LpBounded s.lp := ⟨h.1, h.2.1⟩

/-- The bounds depend on the LP by its own bounds only. -/
theorem Bounded.ofLp {s t : State} (h : Bounded s) (hl : LpBounded t.lp) (e : t.sc = s.sc ∧ t.me = s.me ∧ t.tbc = s.tbc) :
    Bounded t := by
  obtain ⟨hsc, hme, htbc⟩ := e
  unfold Bounded at *
  rw [hsc, hme, htbc]
  exact ⟨hl.1, hl.2, h.2.2⟩

/-- Every event keeps the bounds (R17, R20, R68, R101, R113, R179, R180). -/
theorem Within.bounded {s t : State} (h : Within s t) (hb : Bounded s) : Bounded t := by
  have hl := h.lpBounded hb.lp
  obtain ⟨_, _, hq, hr, hc, hp, hs⟩ := hb
  exact ⟨hl.1, hl.2, h.queue.trans hq, h.ring hr, h.curve ▸ hc, h.pBrakeOn ▸ hp, h.profiles ▸ hs⟩

/-! ### What an answer keeps, by its kind -/

/-- `t` is what an answer to a request of kind `k` may leave of `s`. -/
structure Handled (k : Byte) (s t : State) : Prop where
  bounded : Bounded s → Bounded t
  clocked : t.lp.frame = s.lp.frame ∧ t.lp.bitCount = s.lp.bitCount ∧ t.lp.dataOut = s.lp.dataOut
  supervision : k ≠ 8 → k ≠ 9 → t.lp.supervision = s.lp.supervision
  losses : k ≠ 2 → k ≠ 8 → Losses k s.lp t.lp
  limits : s.pc.lock = true → t.pc.lock = true ∧ t.pc.limits = s.pc.limits
  entersRun : s.pc.part = .config → t.pc.part = .run → k = 9 ∧ startChecks s = none
  leavesRun : s.pc.part = .run → t.pc.part = .config → k = 8

theorem Within.handled {s t : State} (h : Within s t) (k : Byte) : Handled k s t where
  bounded := h.bounded
  clocked := by rw [h.posted]; exact ⟨rfl, rfl, rfl⟩
  supervision _ _ := by rw [h.posted]
  losses _ _ := h.losses k
  limits hl := by rw [h.pc]; exact ⟨hl, rfl⟩
  entersRun h1 h2 := by rw [h.pc, h1] at h2; cases h2
  leavesRun h1 h2 := by rw [h.pc, h1] at h2; cases h2

/-- What an answer leaves, and then an event. -/
theorem Handled.within {k : Byte} {s t u : State} (h : Handled k s t) (h' : Within t u) : Handled k s u where
  bounded hb := h'.bounded (h.bounded hb)
  clocked := by rw [h'.posted]; exact h.clocked
  supervision h1 h2 := by rw [h'.posted]; exact h.supervision h1 h2
  losses h1 h2 := (h.losses h1 h2).trans (h'.losses k)
  limits := h'.pc ▸ h.limits
  entersRun := h'.pc ▸ h.entersRun
  leavesRun := h'.pc ▸ h.leavesRun

/-- An answer that writes one table of the SC or the TBC. -/
theorem Handled.ofTable {k : Byte} {s t : State} (hb : Bounded s → Bounded t) (e : t.lp = s.lp ∧ t.pc = s.pc) : Handled k s t where
  bounded := hb
  clocked := by rw [e.1]; exact ⟨rfl, rfl, rfl⟩
  supervision _ _ := by rw [e.1]
  losses _ _ := by rw [e.1]; exact .refl _ _
  limits hl := by rw [e.2]; exact ⟨hl, rfl⟩
  entersRun h1 h2 := by rw [e.2, h1] at h2; cases h2
  leavesRun h1 h2 := by rw [e.2, h1] at h2; cases h2

/-- An answer that writes the LP's settings, link state, flags or queue. -/
theorem Handled.ofLp {k : Byte} {s t : State} (lp : LinkPort) (e : t = { s with lp := lp }) (hb : LpBounded s.lp → LpBounded lp)
    (hc : lp.frame = s.lp.frame ∧ lp.bitCount = s.lp.bitCount ∧ lp.dataOut = s.lp.dataOut)
    (hs : lp.supervision = s.lp.supervision) (hl : k ≠ 2 → Losses k s.lp lp) : Handled k s t where
  bounded h := by rw [e]; exact h.ofLp (hb h.lp) ⟨rfl, rfl, rfl⟩
  clocked := by rw [e]; exact hc
  supervision _ _ := by rw [e]; exact hs
  losses h _ := by rw [e]; exact hl h
  limits h := by rw [e]; exact ⟨h, rfl⟩
  entersRun h1 h2 := by rw [e] at h2; rw [h1] at h2; cases h2
  leavesRun h1 h2 := by rw [e] at h2; rw [h1] at h2; cases h2

/-- An answer that writes the PC in the part state it stands in. -/
theorem Handled.ofPc {k : Byte} {s t : State} (pc : PartConfig) (e : t = { s with pc := pc }) (hp : pc.part = s.pc.part)
    (hl : s.pc.lock = true → pc.lock = true ∧ pc.limits = s.pc.limits) : Handled k s t where
  bounded h := by rw [e]; exact h
  clocked := by rw [e]; exact ⟨rfl, rfl, rfl⟩
  supervision _ _ := by rw [e]
  losses _ _ := by rw [e]; exact .refl _ _
  limits h := by rw [e]; exact hl h
  entersRun h1 h2 := by rw [e] at h2; rw [show pc.part = _ from h2] at hp; rw [h1] at hp; cases hp
  leavesRun h1 h2 := by rw [e] at h2; rw [show pc.part = _ from h2] at hp; rw [h1] at hp; cases hp

/-- An answer that changes nothing. -/
theorem Handled.refl (k : Byte) (s : State) : Handled k s s := (Within.refl s).handled k

theorem Enqueued.handled {s t : State} (h : Enqueued s t) (k : Byte) : Handled k s t := by
  obtain ⟨q, hq, h⟩ := h
  refine Handled.within (t := { s with sc := { s.sc with queue := q } }) (.ofTable (fun hb => ?_) ⟨rfl, rfl⟩) h
  obtain ⟨h1, h2, h3, hr⟩ := hb
  exact ⟨h1, h2, hq.elim (fun x => x.trans h3) id, hr⟩

section
variable (f : Request) (s : State)

theorem handled_status : Handled 2 s (reqStatus f s).after :=
  .ofLp _ rfl (fun h => h) ⟨rfl, rfl, rfl⟩ rfl (fun h => absurd rfl h)

theorem handled_fetchNotice : Handled 4 s (reqFetchNotice f s).after :=
  .ofLp _ rfl (fun h => ⟨(List.length_drop ▸ Nat.sub_le _ _).trans h.1, rfl⟩) ⟨rfl, rfl, rfl⟩ rfl
    (fun _ => .none ⟨rfl, rfl⟩ (.inl rfl))

theorem handled_setThreshold (k : Byte) (n tl : Nat) (p : Policy) :
    Handled k s (setThreshold n { s with lp := { s.lp with tLink := tl, policy := p } }) :=
  .ofLp _ rfl (fun h => ⟨h.1, rfl⟩) ⟨rfl, rfl, rfl⟩ rfl (fun _ => .none ⟨rfl, rfl⟩ (.inr le_rfl))

theorem handled_setNoticeLevel : Handled 5 s (reqSetNoticeLevel f s).after := by
  rcases reqSetNoticeLevel_after f s with e | e
  · rw [e]; exact .refl _ s
  · rw [e]; exact handled_setThreshold s 5 (f.u8 0) s.lp.tLink s.lp.policy

theorem handled_cfgLink : Handled 6 s (reqCfgLink f s).after := by
  rcases reqCfgLink_after f s with e | ⟨tl, p, e⟩
  · rw [e]; exact .refl _ s
  · rw [e]; exact handled_setThreshold s 6 _ tl p

theorem handled_resume : Handled 7 s (reqResume f s).after := by
  obtain ⟨link, h⟩ := reqResume_within f s
  exact Handled.within (t := { s with lp := { s.lp with link := link } })
    (.ofLp _ rfl (fun h => h) ⟨rfl, rfl, rfl⟩ rfl (fun _ => .none ⟨rfl, rfl⟩ (.inr le_rfl))) h

theorem handled_restart : Handled 8 s (reqRestart f s).after where
  bounded hb := by
    obtain ⟨_, _, _, h1, h2, h3, h4⟩ := hb
    exact ⟨Nat.zero_le _, rfl, Nat.zero_le _, h1, h2, h3, h4⟩
  clocked := ⟨rfl, rfl, rfl⟩
  supervision h := absurd rfl h
  losses _ h := absurd rfl h
  limits h := ⟨h, rfl⟩
  entersRun _ h := by cases h
  leavesRun _ _ := rfl

theorem handled_start : Handled 9 s (reqStart f s).after := by
  unfold reqStart
  split
  · exact .refl _ s
  split
  · exact .refl _ s
  · rename_i hr _ hc
    have hbase : Handled 9 s (restartSupervision { s with pc := { s.pc with part := .run }, lp := { s.lp with link := .up } }) :=
      { bounded := fun h => h.ofLp h.lp ⟨rfl, rfl, rfl⟩
        clocked := ⟨rfl, rfl, rfl⟩
        supervision := fun _ h => absurd rfl h
        losses := fun _ _ => .none ⟨rfl, rfl⟩ (.inr le_rfl)
        limits := fun h => ⟨h, rfl⟩
        entersRun := fun _ _ => ⟨rfl, hc⟩
        leavesRun := fun h => absurd (decide_eq_true h) hr }
    dsimp only
    exact hbase.within (startPart_within s)

theorem handled_cfgLimits : Handled 10 s (reqCfgLimits f s).after := by
  rcases reqCfgLimits_after f s with e | ⟨hl, e⟩
  · rw [e]; exact .refl _ s
  · exact .ofPc _ e rfl fun h => by rw [hl] at h; cases h

theorem handled_lockLimits : Handled 11 s (reqLockLimits f s).after := by
  rcases reqLockLimits_after f s with e | e
  · rw [e]; exact .refl _ s
  · exact .ofPc _ e rfl fun _ => ⟨rfl, rfl⟩

theorem handled_cfgProfileStep : Handled 22 s (reqCfgProfileStep f s).after := by
  rcases reqCfgProfileStep_after f s with e | ⟨p, steps, hp, e⟩
  · rw [e]; exact .refl _ s
  · rw [e]
    refine .ofTable (fun hb => ?_) ⟨rfl, rfl⟩
    obtain ⟨h1, h2, h3, h4, h5, h6, h7⟩ := hb
    refine ⟨h1, h2, h3, h4, h5, h6, fun q => ?_⟩
    show ((s.sc.profiles.set p steps)[q.val]).length ≤ 12
    rw [Vector.getElem_set]
    split
    · exact hp (h7 p)
    · exact h7 q

theorem handled_cfgTrailer : Handled 35 s (reqCfgTrailer f s).after := by
  rcases reqCfgTrailer_after f s with e | ⟨hp, e⟩
  · rw [e]; exact .refl _ s
  · rw [e]
    exact .ofTable (fun ⟨h1, h2, h3, h4, h5, _, h7⟩ => ⟨h1, h2, h3, h4, h5, hp, h7⟩) ⟨rfl, rfl⟩

theorem handled_cfgCurvePoint : Handled 36 s (reqCfgCurvePoint f s).after := by
  rcases reqCfgCurvePoint_after f s with e | ⟨c, hc, e⟩
  · rw [e]; exact .refl _ s
  · rw [e]
    exact .ofTable (fun ⟨h1, h2, h3, h4, _, h6, h7⟩ => ⟨h1, h2, h3, h4, hc, h6, h7⟩) ⟨rfl, rfl⟩

end

/-- A kind of the catalogue by its number. -/
theorem kind_eq {k : Byte} {n : Nat} (h : k.toNat = n) : k = BitVec.ofNat 8 n := by
  rw [← h, BitVec.ofNat_toNat, BitVec.setWidth_eq]

/-- Every kind of the catalogue is handled (R14). -/
theorem handled_of_catalogue {k : Byte} {size : Nat} {handler : Request → State → Answer} (h : catalogue k = some (size, handler))
    (f : Request) (s : State) : Handled k s (handler f s).after := by
  unfold catalogue at h
  split at h <;> cases h <;> rename_i hk
  · exact .refl _ s
  · cases kind_eq hk; exact handled_status f s
  · exact (Within.reqRead f s).handled k
  · cases kind_eq hk; exact handled_fetchNotice f s
  · cases kind_eq hk; exact handled_setNoticeLevel f s
  · cases kind_eq hk; exact handled_cfgLink f s
  · cases kind_eq hk; exact handled_resume f s
  · cases kind_eq hk; exact handled_restart f s
  · cases kind_eq hk; exact handled_start f s
  · cases kind_eq hk; exact handled_cfgLimits f s
  · cases kind_eq hk; exact handled_lockLimits f s
  · exact (Within.reqCfgScanStep f s).handled k
  · exact (Within.reqCfgRole f s).handled k
  · exact (Within.reqCfgDraft f s).handled k
  · exact (Within.reqCfgSpeedInput f s).handled k
  · exact (Within.reqScanStart f s).handled k
  · exact (Within.reqScanStop f s).handled k
  · exact (Within.reqEngineInfo f s).handled k
  · exact (Within.reqCfgOutput f s).handled k
  · exact (Within.reqCfgSupply f s).handled k
  · exact (Within.reqCfgGear f s).handled k
  · cases kind_eq hk; exact handled_cfgProfileStep f s
  · exact (Within.reqCfgProfileMap f s).handled k
  · exact (Within.reqCfgShift f s).handled k
  · exact (reqShift_enqueued f s).handled k
  · exact (reqShuttle_enqueued f s).handled k
  · exact (Within.reqNeutral f s).handled k
  · exact (Within.reqCfgFront f s).handled k
  · exact (Within.reqFrontMode f s).handled k
  · exact (Within.reqCfgHitch f s).handled k
  · exact (Within.reqHitchSet f s).handled k
  · exact (Within.reqHitchMode f s).handled k
  · exact (Within.reqHitchHold f s).handled k
  · exact (Within.reqHitchRelease f s).handled k
  · cases kind_eq hk; exact handled_cfgTrailer f s
  · cases kind_eq hk; exact handled_cfgCurvePoint f s
  · exact (Within.reqTrailerMode f s).handled k
  · exact (Within.reqTrailerHand f s).handled k
  · exact (Within.reqLineCheck f s).handled k
  · exact (Within.reqClearFault f s).handled k

end Sys2Proof.Machine
end

section
/-! SUPPORT. One command, whatever it is: a request row takes its valid frame and its owner's answer, an event stays `Within` its
state, and the frame commands end in one of the two (R3 to R8, R14). -/

namespace Sys2Proof.Machine

open Sys2Proof

/-! ### Frames -/

/-- The bits of a valid request frame (R2). -/
def requestBits (k : Byte) (f : Request) : List Bool := bytesBits (frameBytes k f (crc16 (frameHead k f)))

/-- The LP as a valid frame finds it once its bits are in: the supervision timer restarted in RUN, and a link LOST there in
RESTORED_WAIT (R3, R22, R23). -/
def framedLp (bits : List Bool) (s : State) : LinkPort :=
  { s.lp with
    frame := bits.take Config.frameBits, bitCount := bits.length, dataOut := shiftedOut s.lp.slot bits.length
    supervision := if s.inRun then some (s.time + s.lp.tLink * Config.ms) else s.lp.supervision
    link := if s.inRun = true ∧ s.lp.link = .lost then .restoredWait else s.lp.link }

/-- The delivery test comes last in the taking of a valid frame, after the notices of a restored link (R7, R19, R23). -/
theorem takeFrame_within (bits : List Bool) (s : State) :
    ∃ u, Within { s with lp := framedLp bits s } u ∧ takeFrame (clockFrame bits s) = deliveryTest u := by
  have hr : (clockFrame bits s).inRun = s.inRun := rfl
  have hl : (clockFrame bits s).lp.link = s.lp.link := rfl
  unfold takeFrame framedLp
  rw [hr, hl]
  cases hb : s.inRun with
  | false => exact ⟨_, by simpa using .refl _, rfl⟩
  | true =>
    by_cases h : s.lp.link = .lost
    · refine ⟨restoreLink (restartSupervision (clockFrame bits s)), ?_, by simp [h]⟩
      simp only [h, and_self, if_true]
      exact ((Within.refl _).post _ _ _).ftEnd _
    · exact ⟨_, by simpa [h] using .refl _, rfl⟩

/-- What taking a valid frame leaves, before its request is executed. -/
structure Framed (bits : List Bool) (s u : State) : Prop where
  bounded : Bounded s → Bounded u
  clocked : u.lp.frame = bits.take 256 ∧ u.lp.bitCount = bits.length ∧ u.lp.dataOut = shiftedOut s.lp.slot bits.length
  supervision : u.lp.supervision = if s.inRun then some (s.time + s.lp.tLink * Config.ms) else s.lp.supervision
  losses : ∃ more : Bool, u.lp.lost = (lostAfter s.lp || more) ∧ u.lp.lostMarker = (s.lp.lostMarker || more)
    ∧ (more = true → 16 ≤ u.lp.notices.length)

theorem framed_takeFrame (bits : List Bool) (s : State) : Framed bits s (takeFrame (clockFrame bits s)) := by
  obtain ⟨u, hu, e⟩ := takeFrame_within bits s
  rw [e, deliveryTest_eq]
  have hp : u.lp = { framedLp bits s with notices := u.lp.notices, lost := u.lp.lost, lostMarker := u.lp.lostMarker, attn := u.lp.attn } :=
    hu.posted
  refine ⟨fun hb => ?_, ?_, ?_, ?_⟩
  · have hub : Bounded u := hu.bounded (hb.ofLp hb.lp ⟨rfl, rfl, rfl⟩)
    exact hub.ofLp hub.lp ⟨rfl, rfl, rfl⟩
  · dsimp only
    rw [hp]
    exact ⟨rfl, rfl, rfl⟩
  · dsimp only
    rw [hp]
    rfl
  · obtain ⟨⟨more, h1, h2, h3⟩, -⟩ := hu.losses 0
    have h1 : u.lp.lost = (s.lp.lost || more) := h1
    have h2 : u.lp.lostMarker = (s.lp.lostMarker || more) := h2
    have hslot : u.lp.slot = s.lp.slot := by rw [hp]; rfl
    refine ⟨more, ?_, h2, fun h => (h3 h).resolve_left (by decide)⟩
    show lostAfter u.lp = _
    unfold lostAfter
    rw [h1, h2, hslot]
    cases more <;> simp

/-- The checks of START read neither the LP, the FT nor the commands that wait (R33). -/
theorem startChecks_congr {s t : State} (e : t.sc = s.sc ∧ t.mu = s.mu ∧ t.vo = s.vo ∧ t.tbc = s.tbc ∧ t.pc = s.pc) :
    startChecks t = startChecks s := by
  obtain ⟨h1, h2, h3, h4, h5⟩ := e
  cases s
  cases t
  dsimp only at h1 h2 h3 h4 h5
  subst h1 h2 h3 h4 h5
  rfl

/-! ### Requests -/

/-- A valid frame of any kind: the frame is taken, its owner answers, the event ends, and the reply is formed (R7). -/
theorem takeValid_does (k : Byte) (f : Request) (s : State) : ∃ status body u,
    Framed (requestBits k f) s (takeFrame (clockFrame (requestBits k f) s))
      ∧ Handled k (takeFrame (clockFrame (requestBits k f) s)) u ∧ (s.undelivered = 0 → u.undelivered = 0)
      ∧ takeValid k f s = reply k f.tag status body u := by
  have hf := framed_takeFrame (requestBits k f) s
  unfold takeValid
  split
  · rename_i size handler hc
    refine ⟨_, _, settle _, hf, Handled.within ?_ (Within.refl _).settle, fun _ => settle_undelivered _, rfl⟩
    split
    · exact handled_of_catalogue hc f _
    · exact .refl k _
  · exact ⟨_, _, _, hf, .refl k _, fun h => by simpa using h, rfl⟩

/-- A request row runs the valid frame it carries (R14). -/
theorem exec_of_row {c : Instr} {k : Byte} {f : Request} (h : requestOfRow c = some (k, f)) (s : State) :
    exec c s = .next (takeValid k f s) := by
  cases c <;> cases h <;> rfl

/-- A request, of the catalogue or of another kind, runs the valid frame it carries (R7). -/
theorem exec_of_request {c : Instr} {k : Byte} {f : Request} (h : requestOfRow c = some (k, f) ∨ c = .unknownRequest k f)
    (s : State) : exec c s = .next (takeValid k f s) := by
  rcases h with h | rfl
  · exact exec_of_row h s
  · rfl

theorem Bounded.reply {s : State} (h : Bounded s) (k tag : Byte) (st : Status) (body : List Byte) :
    Bounded (reply k tag st body s) := h

/-- A request keeps the bounds. -/
theorem takeValid_bounded (k : Byte) (f : Request) {s : State} (hb : Bounded s) (hu : s.undelivered = 0) :
    Bounded (takeValid k f s) ∧ (takeValid k f s).undelivered = 0 := by
  obtain ⟨st, body, u, hfr, hh, h0, e⟩ := takeValid_does k f s
  rw [e]
  exact ⟨(hh.bounded (hfr.bounded hb)).reply _ _ _ _, h0 hu⟩

/-- A frame of 256 bits whose CRC does not match writes the LP alone (R6). -/
theorem takeBadCrc_eq (k : Byte) (f : Request) (crc : Word16) (s : State) : ∃ lp,
    takeBadCrc k f crc s = { s with lp := lp } ∧ SameLp s.lp lp ∧ lp.lost = lostAfter s.lp
      ∧ lp.supervision = s.lp.supervision ∧ lp.slot = mkReply 255 f.tag Status.linkError.code
        (partSummary { s with lp := lp }) (be8 1)
      ∧ lp.frame = (bytesBits (frameBytes k f crc)).take 256 ∧ lp.bitCount = (bytesBits (frameBytes k f crc)).length
      ∧ lp.dataOut = shiftedOut s.lp.slot (bytesBits (frameBytes k f crc)).length := by
  have hm : lostAfter s.lp = true → s.lp.lost = true := by unfold lostAfter; simp +contextual
  unfold takeBadCrc
  rw [deliveryTest_eq]
  exact ⟨_, rfl, ⟨rfl, hm⟩, rfl, rfl, rfl, rfl, rfl, rfl⟩

theorem takeWhole_bounded (k : Byte) (f : Request) (crc : Word16) {s : State} (hb : Bounded s) (hu : s.undelivered = 0) :
    Bounded (takeWhole k f crc s) ∧ (takeWhole k f crc s).undelivered = 0 := by
  unfold takeWhole
  split
  · exact takeValid_bounded k f hb hu
  · obtain ⟨lp, e, hl, -⟩ := takeBadCrc_eq k f crc s
    obtain ⟨h1, h2, -, -, -, -, h3, -⟩ := hl.fields
    rw [e]
    refine ⟨hb.ofLp ?_ ⟨rfl, rfl, rfl⟩, hu⟩
    unfold LpBounded
    dsimp only
    rw [h1, h2, h3]
    exact hb.lp

theorem takeBits_bounded (bits : List Bool) {s : State} (hb : Bounded s) (hu : s.undelivered = 0) :
    Bounded (takeBits bits s) ∧ (takeBits bits s).undelivered = 0 := by
  unfold takeBits
  split
  · exact takeWhole_bounded _ _ _ hb hu
  · exact ⟨hb, hu⟩

/-! ### Events -/

/-- An event whose act stays within its state does so to its end, with everything delivered. -/
theorem event_within {cond : Bool} {act : State → State} {s : State} (h : Within s (act s)) :
    ∃ t, event cond act s = .next t ∧ Within s t ∧ t.undelivered = 0 := by
  refine ⟨_, rfl, Within.settle ?_, settle_undelivered _⟩
  split
  · exact h
  · exact .refl s

namespace Within

variable {s0 s : State} (h : Within s0 s)
include h

theorem linkLoss_told : Within s0 (Machine.tbcOnLoss (Machine.hcOnLoss (Machine.fdmOnLoss (Machine.scOnLoss s)))) :=
  h.scOnLoss.fdmOnLoss.hcOnLoss.tbcOnLoss

theorem conversionStarts : Within s0 (conversionStarts s) := by
  unfold Machine.conversionStarts
  split
  · exact (h.setMu _).trackStart
  · exact h

theorem conversionEnds (l r : Int) : Within s0 (conversionEnds l r s) := by
  unfold Machine.conversionEnds
  split
  · exact h.draftEnded _ _ _
  · exact h

theorem onRun {act : ScanRun → State → State} (ha : ∀ run, Within s0 (act run s)) : Within s0 (onRun act s) := by
  unfold Machine.onRun
  split
  · exact ha _
  · exact h

theorem startEntryNext : Within s0 (Machine.startEntry Machine.pendNext s) := h.startEntry fun h => h.pendNext

end Within

/-- The events: no frame, no request and no power-on. -/
theorem exec_event {c : Instr} (hp : c ≠ .powerOn) (hs : c ≠ .supervisionExpiry) (ht : ∀ bits, c ≠ .tornFrame bits)
    (hc : ∀ k f crc, c ≠ .crcFailure k f crc) (hu : ∀ k f, c ≠ .unknownRequest k f) (hr : requestOfRow c = none) (s : State) :
    ∃ t, exec c s = .next t ∧ Within s t ∧ t.undelivered = 0 := by
  have h := Within.refl s
  cases c
  case powerOn => exact absurd rfl hp
  case supervisionExpiry => exact absurd rfl hs
  case tornFrame bits => exact absurd rfl (ht bits)
  case crcFailure k f crc => exact absurd rfl (hc k f crc)
  case unknownRequest k f => exact absurd rfl (hu k f)
  case conversionStart => exact event_within h.conversionStarts
  case conversionEnd => exact event_within (h.conversionEnds _ _)
  case fastSample => exact event_within (h.fastSample _ _)
  case shockTimerExpiry => exact event_within (h.hcChange _ _)
  case scanStepDelayEnd => exact event_within (h.onRun fun _ => h.setMu _)
  case scanStepConversionEnd => exact event_within (h.onRun fun _ => h.stepConverted _ _)
  case scanConversionTimeout => exact event_within (act := fun s => nextRun (abortRun s)) (h.setMu _).nextRun
  case scanStaleExpiry => exact event_within h.scanStale
  case supplyQualificationExpiry => exact event_within (h.supplyChange _)
  case pulseEdge => exact event_within (h.setMu _)
  case pulseGapExpiry => exact event_within (h.setMu _)
  case motionUpdate => exact event_within h.motionUpdate
  case engineInfoStaleExpiry => exact event_within h.engineExpires
  case diagnosticSample => exact event_within (h.diagSample _ _ _)
  case overcurrentTrip => exact event_within (h.forceChannel _ _)
  case shiftStart => exact event_within h.startEntryNext
  case supplyWaitExpiry => exact event_within (h.dropHead _)
  case brakeWaitExpiry => exact event_within (h.dropHead _)
  case modulationUpdate => exact event_within h.modUpdate
  case stepTimeout => exact event_within h.modUpdate
  case recoveryFailure => exact event_within h.modUpdate
  case dumpTimeExpiry => exact event_within h.dumpEnds
  case frontWaitExpiry => exact event_within h.fdmWaitExpiry
  case chargeWindowExpiry => exact event_within h.tbcChargeExpiry
  case trlSuppLowHoldExpiry => exact event_within (act := fun s => tbcFinish (lowReport s)) h.lowReport.tbcFinish
  case lineCheckStageExpiry => exact event_within h.tbcStageExpiry
  case preBrakeRunOutExpiry => exact event_within h.tbcRunOutExpiry
  all_goals cases hr

/-- SUPERVISION_EXPIRY stays within the state with the loss of the link written in the LP, or within its own. -/
theorem exec_supervisionExpiry (s : State) : ∃ lp t, exec .supervisionExpiry s = .next t ∧ Within { s with lp := lp } t
    ∧ t.undelivered = 0 ∧ (LpBounded s.lp → LpBounded lp) := by
  show ∃ lp t, event _ _ s = .next t ∧ _
  unfold event
  split
  · refine ⟨{ s.lp with link := .lost, supervision := none, lossTime := s.time }, _, rfl, Within.settle ?_,
      settle_undelivered _, fun h => h⟩
    exact ((Within.refl _).ftStart _ _).linkLoss_told
  · exact ⟨s.lp, _, rfl, (Within.refl s).settle, settle_undelivered _, fun h => h⟩

end Sys2Proof.Machine
end

section
/-! O55 and O60: what every step keeps of the bounds, the limit lock and the part state. -/

namespace Sys2Proof.Machine

open Sys2Proof

theorem reset_bounded : Bounded State.reset :=
  ⟨Nat.zero_le _, rfl, Nat.zero_le _, Nat.zero_le _, Nat.zero_le _, by decide, by decide⟩

/-- Every command keeps the bounds and leaves everything delivered. -/
theorem exec_bounded (c : Instr) {s t : State} (hb : Bounded s) (hu : s.undelivered = 0) (e : exec c s = .next t) :
    Bounded t ∧ t.undelivered = 0 := by
  cases hr : requestOfRow c with
  | some kf =>
    obtain ⟨k, f⟩ := kf
    rw [exec_of_row hr] at e
    cases e
    exact takeValid_bounded k f hb hu
  | none =>
    by_cases hp : c = .powerOn
    · subst hp
      cases e
      exact ⟨reset_bounded, rfl⟩
    by_cases hs : c = .supervisionExpiry
    · subst hs
      obtain ⟨lp, t', e', hw, h0, hl⟩ := exec_supervisionExpiry s
      cases e'.symm.trans e
      exact ⟨hw.bounded (hb.ofLp (hl hb.lp) ⟨rfl, rfl, rfl⟩), h0⟩
    by_cases ht : ∃ bits, c = .tornFrame bits
    · obtain ⟨bits, rfl⟩ := ht
      cases e
      exact takeBits_bounded bits hb hu
    by_cases hc : ∃ k f crc, c = .crcFailure k f crc
    · obtain ⟨k, f, crc, rfl⟩ := hc
      cases e
      exact takeWhole_bounded k f crc hb hu
    by_cases hk : ∃ k f, c = .unknownRequest k f
    · obtain ⟨k, f, rfl⟩ := hk
      cases e
      exact takeValid_bounded k f hb hu
    · obtain ⟨t', e', hw, h0⟩ := exec_event hp hs (fun b h => ht ⟨b, h⟩) (fun k f x h => hc ⟨k, f, x, h⟩)
        (fun k f h => hk ⟨k, f, h⟩) hr s
      cases e'.symm.trans e
      exact ⟨hw.bounded hb, h0⟩

/-- What a command may do to the limit lock, the limit set and the part state (R25 to R32). -/
def KeepsLockAndPart (c : Instr) (s t : State) : Prop :=
  (s.pc.lock = true → c ≠ .powerOn → t.pc.lock = true ∧ t.pc.limits = s.pc.limits) ∧
  (s.pc.part = .config → t.pc.part = .run → (∃ f, c = .start f) ∧ startChecks s = none) ∧
  (s.pc.part = .run → t.pc.part = .config → c = .powerOn ∨ ∃ f, c = .restart f)

theorem KeepsLockAndPart.ofPc {c : Instr} {s t : State} (h : t.pc = s.pc) : KeepsLockAndPart c s t := by
  refine ⟨fun hl _ => by rw [h]; exact ⟨hl, rfl⟩, fun h1 h2 => ?_, fun h1 h2 => ?_⟩
  all_goals
    rw [h, h1] at h2
    cases h2

theorem start_of_row {c : Instr} {f : Request} (h : requestOfRow c = some (9, f)) : c = .start f := by
  cases c <;> simp_all [requestOfRow]

theorem restart_of_row {c : Instr} {f : Request} (h : requestOfRow c = some (8, f)) : c = .restart f := by
  cases c <;> simp_all [requestOfRow]

/-- A request does to the PC what its owner's answer does. -/
theorem takeValid_lockAndPart {c : Instr} {k : Byte} {f : Request} (h9 : k = 9 → c = .start f) (h8 : k = 8 → c = .restart f)
    (s : State) : KeepsLockAndPart c s (takeValid k f s) := by
  obtain ⟨st, body, u, -, hh, -, e⟩ := takeValid_does k f s
  have hpc : (takeFrame (clockFrame (requestBits k f) s)).pc = s.pc := by simp
  have hck : startChecks (takeFrame (clockFrame (requestBits k f) s)) = startChecks s := startChecks_congr (by simp)
  have h1 := hh.limits
  have h2 := hh.entersRun
  have h3 := hh.leavesRun
  rw [hpc] at h1 h2 h3
  rw [hck] at h2
  rw [e]
  refine ⟨fun hl _ => h1 hl, fun hp hr => ?_, fun hp hr => .inr ⟨f, h8 (h3 hp hr)⟩⟩
  obtain ⟨hk, hs⟩ := h2 hp hr
  exact ⟨⟨f, h9 hk⟩, hs⟩

/-- The link's loss and every event leave the PC alone (R22). -/
theorem exec_lockAndPart (c : Instr) {s t : State} (hw : c.wf = true) (e : exec c s = .next t) : KeepsLockAndPart c s t := by
  cases hr : requestOfRow c with
  | some kf =>
    obtain ⟨k, f⟩ := kf
    rw [exec_of_row hr] at e
    cases e
    exact takeValid_lockAndPart (fun h => start_of_row (h ▸ hr)) (fun h => restart_of_row (h ▸ hr)) s
  | none =>
    by_cases hp : c = .powerOn
    · subst hp
      cases e
      exact ⟨fun _ h => absurd rfl h, fun _ h => (by cases h), fun _ _ => .inl rfl⟩
    by_cases hs : c = .supervisionExpiry
    · subst hs
      obtain ⟨lp, t', e', ht, -⟩ := exec_supervisionExpiry s
      cases e'.symm.trans e
      exact .ofPc ht.pc
    by_cases ht : ∃ bits, c = .tornFrame bits
    · obtain ⟨bits, rfl⟩ := ht
      cases e
      have hl : bits.length ≠ Config.frameBits := of_decide_eq_true hw
      exact .ofPc (by rw [takeBits, if_neg hl]; rfl)
    by_cases hc : ∃ k f crc, c = .crcFailure k f crc
    · obtain ⟨k, f, crc, rfl⟩ := hc
      cases e
      have hx : crc16 (frameHead k f) ≠ crc := of_decide_eq_true (Bool.and_eq_true_iff.1 hw).2
      obtain ⟨lp, e, -⟩ := takeBadCrc_eq k f crc s
      exact .ofPc (by rw [takeWhole, if_neg hx.symm, e])
    by_cases hk : ∃ k f, c = .unknownRequest k f
    · obtain ⟨k, f, rfl⟩ := hk
      cases e
      have hx : k.toNat = 0 ∨ 40 < k.toNat := of_decide_eq_true (Bool.and_eq_true_iff.1 hw).2
      refine takeValid_lockAndPart (fun h => ?_) (fun h => ?_) s
      all_goals
        subst h
        exact absurd hx (by decide)
    · obtain ⟨t', e', ht', -⟩ := exec_event hp hs (fun b h => ht ⟨b, h⟩) (fun k f x h => hc ⟨k, f, x, h⟩)
        (fun k f h => hk ⟨k, f, h⟩) hr s
      cases e'.symm.trans e
      exact .ofPc ht'.pc

end Sys2Proof.Machine

open Sys2Proof Sys2Proof.Machine

/-- Settles O55: a tick changes part time alone, and every command keeps the bounds. -/
theorem stepsKeepTheBounds : Obligations.StepsKeepTheBounds := by
  unfold Obligations.StepsKeepTheBounds
  intro s t hu hb e
  unfold step at e
  split at e
  · cases e
    exact ⟨hb, hu⟩
  · rename_i c rest _
    exact exec_bounded c (s := { s with pending := rest }) hb hu e

/-- Settles O60: the command at the front of the queue is a request, whose owner alone may write the PC, or leaves it. -/
theorem stepsKeepTheLimitLockAndPartState : Obligations.StepsKeepTheLimitLockAndPartState := by
  unfold Obligations.StepsKeepTheLimitLockAndPartState
  intro c rest s t hq hw e
  have h : KeepsLockAndPart c { s with pending := rest } t := exec_lockAndPart c hw (by rw [step, hq] at e; exact e)
  obtain ⟨hl, hr, hc⟩ := h
  refine ⟨hl, fun h1 h2 => ?_, hc⟩
  obtain ⟨hf, hs⟩ := hr h1 h2
  exact ⟨hf, (startChecks_congr (s := { s with pending := rest }) ⟨rfl, rfl, rfl, rfl, rfl⟩).trans hs⟩
end

section
/-! SUPPORT. Bytes, bits and CRC of a frame (R2, R4, R8). -/

namespace Sys2Proof.Machine

open Sys2Proof

theorem byteBits_length (b : Byte) : (byteBits b).length = 8 := rfl

theorem bytesBits_length (bs : List Byte) : (bytesBits bs).length = 8 * bs.length := by
  induction bs with
  | nil => rfl
  | cons b bs ih =>
    rw [show bytesBits (b :: bs) = byteBits b ++ bytesBits bs from rfl, List.length_append, ih, byteBits_length,
      List.length_cons]
    omega

theorem bitsByte_byteBits (b : Byte) : bitsByte (byteBits b) = b := by
  revert b
  decide

theorem bitsBytes_bytesBits (bs : List Byte) : bitsBytes bs.length (bytesBits bs) = bs := by
  induction bs with
  | nil => rfl
  | cons b bs ih =>
    have e : bytesBits (b :: bs) = byteBits b ++ bytesBits bs := rfl
    rw [e, List.length_cons, bitsBytes, List.take_left' (byteBits_length b), List.drop_left' (byteBits_length b), ih,
      bitsByte_byteBits]

theorem padTo_length (n : Nat) (bs : List Byte) : (padTo n bs).length = n := by
  simp [padTo]

/-- A body that fits is followed by zeros (R8). -/
theorem padTo_of_le {n : Nat} {bs : List Byte} (h : bs.length ≤ n) : padTo n bs = bs ++ List.replicate (n - bs.length) 0 := by
  rw [padTo, List.take_append, List.take_of_length_le h, List.take_replicate, Nat.min_eq_left (Nat.sub_le _ _)]
  rfl

theorem frameHead_length (k : Byte) (f : Request) : (frameHead k f).length = 30 := by
  simp [frameHead, padTo_length]

theorem frameBytes_length (k : Byte) (f : Request) (crc : Word16) : (frameBytes k f crc).length = 32 := by
  simp [frameBytes, frameHead_length, be16]

theorem frameBits_length (k : Byte) (f : Request) (crc : Word16) : (bytesBits (frameBytes k f crc)).length = 256 := by
  rw [bytesBits_length, frameBytes_length]

theorem replyBytes_length (kind tag status summary : Byte) (body : List Byte) :
    (mkReply kind tag status summary body).bytes.length = 32 := by
  simp [mkReply, ReplyFrame.bytes, replyHead, be16, padTo_length]

/-- A frame's bytes carry its request (R2). -/
theorem requestOf_frameBytes (k : Byte) {f : Request} (h : f.body.length = 27) (crc : Word16) :
    requestOf (frameBytes k f crc) = f := by
  have hp : padTo 27 f.body = f.body := by rw [padTo_of_le h.le, h]; simp
  have hb : ((frameBytes k f crc).drop 3).take 27 = f.body := by
    show (padTo 27 f.body ++ be16 crc.toNat).take 27 = f.body
    rw [hp, List.take_left' h]
  show Request.mk f.tag f.len (((frameBytes k f crc).drop 3).take 27) = f
  rw [hb]

/-- The two CRC bytes of a frame are its CRC, high byte first (R2). -/
theorem crc_of_bytes (crc : Word16) :
    BitVec.ofNat 16 (256 * (BitVec.ofNat 8 (crc.toNat / 256)).toNat + (BitVec.ofNat 8 crc.toNat).toNat) = crc := by
  have h := crc.isLt
  apply BitVec.eq_of_toNat_eq
  simp only [BitVec.toNat_ofNat]
  omega

theorem frameBytes_crc (k : Byte) (f : Request) (crc : Word16) :
    (frameBytes k f crc).getD 30 0 = BitVec.ofNat 8 (crc.toNat / 256) ∧ (frameBytes k f crc).getD 31 0 = BitVec.ofNat 8 crc.toNat := by
  have h := frameHead_length k f
  unfold frameBytes be16
  constructor
  · rw [List.getD_append_right _ _ _ _ (by omega), h]; rfl
  · rw [List.getD_append_right _ _ _ _ (by omega), h]; rfl

/-- The bits of a whole frame are taken as the frame they are (R2, R7). -/
theorem takeBits_frame (k : Byte) {f : Request} (h : f.body.length = 27) (crc : Word16) (s : State) :
    takeBits (bytesBits (frameBytes k f crc)) s = takeWhole k f crc s := by
  have hb : bitsBytes 32 (bytesBits (frameBytes k f crc)) = frameBytes k f crc := by
    rw [← frameBytes_length k f crc, bitsBytes_bytesBits]
  obtain ⟨h30, h31⟩ := frameBytes_crc k f crc
  unfold takeBits
  rw [if_pos (show _ = Config.frameBits from frameBits_length k f crc)]
  dsimp only
  rw [hb, requestOf_frameBytes k h]
  show takeWhole k f (BitVec.ofNat 16 (256 * ((frameBytes k f crc).getD 30 0).toNat + ((frameBytes k f crc).getD 31 0).toNat)) s = _
  rw [h30, h31, crc_of_bytes]

/-- One bit through the CRC as shift and exclusive or (R4). -/
theorem crcBit_eq (c : Word16) (b : Bool) :
    crcBit c b = (c <<< 1) ^^^ (if c.getLsbD 15 = b then 0 else 0x1021) := by
  unfold crcBit
  generalize c.getLsbD 15 = top
  cases top <;> cases b <;> simp

theorem crc16_append (l : List Byte) (b : Byte) : crc16 (l ++ [b]) = (byteBits b).foldl crcBit (crc16 l) := by
  simp [crc16, bytesBits]

/-- The whole reply is shifted out in a frame of 256 bits (R3). -/
theorem shiftedOut_whole (r : ReplyFrame) : shiftedOut r 256 = (bytesBits r.bytes).take 256 := by
  simp [shiftedOut, Config.frameBits]

theorem requestBits_clocked {k : Byte} {f : Request} {s u : State} (h : Framed (requestBits k f) s u) :
    Clocked (requestBits k f) s.lp u.lp := by
  obtain ⟨h1, h2, h3⟩ := h.clocked
  have hl : (requestBits k f).length = 256 := frameBits_length k f _
  refine ⟨h1.trans (List.take_of_length_le hl.le), h2.trans hl, ?_⟩
  rw [h3, hl, shiftedOut_whole]

end Sys2Proof.Machine

open Sys2Proof Sys2Proof.Machine

/-- Settles O4: the bytes of a frame's bits carry its request and its CRC, so its bits run the valid frame of the row. -/
theorem frameBitsRunTheirRequest : Obligations.FrameBitsRunTheirRequest := by
  unfold Obligations.FrameBitsRunTheirRequest
  refine ⟨fun c k f s hr hw => ⟨frameBits_length k f _, ?_⟩, by simp [crc16, bytesBits, byteBits, crcBit]⟩
  show Host.Outcome.next (takeBits (requestBits k f) s) = _
  rw [exec_of_row hr, requestBits, takeBits_frame k (of_decide_eq_true hw), takeWhole, if_pos rfl]
end

section
/-! O5: the frames and requests that execute nothing. -/

namespace Sys2Proof.Machine

open Sys2Proof

theorem catalogue_of_row {c : Instr} {k : Byte} {f : Request} (h : requestOfRow c = some (k, f)) :
    ∃ size handler, catalogue k = some (size, handler) := by
  cases c <;> cases h <;> exact ⟨_, _, rfl⟩

theorem bodySize_of_catalogue {k : Byte} {size : Nat} {handler : Request → State → Answer}
    (h : catalogue k = some (size, handler)) : bodySize k = size := by
  unfold catalogue at h
  split at h <;> cases h <;> rename_i hk <;> simp [bodySize, hk]

theorem catalogue_unknown {k : Byte} (h : k.toNat = 0 ∨ 40 < k.toNat) : catalogue k = none := by
  unfold catalogue
  split <;> first | rfl | omega

theorem configOnly_refused {s : State} (h : s.inRun = true) (ok : Bool) (body : List Byte) (after : State) :
    configOnly s ok body after = refuse .refusedState s := by
  simp [configOnly, h]

/-- A request that is not taken in the present part state is refused before its fields are read (R27). -/
theorem handler_refuses {k : Byte} {size : Nat} {handler : Request → State → Answer} (h : catalogue k = some (size, handler))
    {s : State} (hk : (s.inRun = true ∧ k ∈ configKinds) ∨ (s.inRun = false ∧ k ∈ runKinds)) (f : Request) :
    handler f s = refuse .refusedState s := by
  rcases hk with ⟨hr, hk⟩ | ⟨hr, hk⟩
  · simp only [configKinds, List.mem_cons, List.not_mem_nil, or_false] at hk
    rcases hk with rfl | rfl | rfl | rfl | rfl | rfl | rfl | rfl | rfl | rfl | rfl | rfl | rfl | rfl | rfl | rfl
    · cases h; simp [reqStart, hr]
    · cases h; simp [reqCfgLimits, hr]
    · cases h; exact configOnly_refused hr _ _ _
    · cases h; exact configOnly_refused hr _ _ _
    · cases h; exact configOnly_refused hr _ _ _
    · cases h; exact configOnly_refused hr _ _ _
    · cases h; exact configOnly_refused hr _ _ _
    · cases h; exact configOnly_refused hr _ _ _
    · cases h; simp [reqCfgOutput, configOnly_refused hr]
    · cases h; exact configOnly_refused hr _ _ _
    · cases h; exact configOnly_refused hr _ _ _
    · cases h; simp [reqCfgProfileStep, reqProfileTruncate, reqProfileWrite, hr]
    · cases h; exact configOnly_refused hr _ _ _
    · cases h; exact configOnly_refused hr _ _ _
    · cases h; exact configOnly_refused hr _ _ _
    · cases h; exact configOnly_refused hr _ _ _
  · simp only [runKinds, List.mem_cons, List.not_mem_nil, or_false] at hk
    have hn : (!s.inRun) = true := by rw [hr]; rfl
    rcases hk with rfl | rfl | rfl | rfl | rfl | rfl | rfl | rfl | rfl | rfl | rfl
    all_goals
      cases h
      exact if_pos hn

/-- A request whose length byte is not its kind's size is refused whatever its owner would answer (R8). -/
theorem takeRequest_wrongLength {size : Nat} {f : Request} (h : f.len.toNat ≠ size) (k : Byte)
    (handler : Request → State → Answer) (s : State) :
    takeRequest k size handler f s = takeRequest k f.len.toNat (fun _ s => refuse .refusedRange s) f s := by
  unfold takeRequest
  simp only [if_neg h, if_true]

/-- The answer of a row whose owner answers it so (R7). -/
theorem answers_of_row {c : Instr} {k : Byte} {f : Request} (hr : requestOfRow c = some (k, f)) {size : Nat}
    {handler : Request → State → Answer} (hc : catalogue k = some (size, handler)) {s u : State} {st : Status} {body : List Byte}
    (h : Replied k f st body u (takeRequest k size handler f s) ∧ (takeRequest k size handler f s).lp.lost = lostAfter u.lp) :
    Answers c s k f st body u := by
  refine ⟨takeRequest k size handler f s, ?_, h⟩
  rw [exec_of_row hr, takeValid, hc]

end Sys2Proof.Machine

open Sys2Proof Sys2Proof.Machine

/-- Settles O5: each of them ends in a reply on a state that only the frame has written. -/
theorem badFramesAndRequestsExecuteNothing : Obligations.BadFramesAndRequestsExecuteNothing := by
  unfold Obligations.BadFramesAndRequestsExecuteNothing
  refine ⟨fun bits s hl => ?_, fun k f crc s hx => ?_, fun k f s hs hk => ?_, fun c k f s hr hs => ?_⟩
  · show Host.Outcome.next (takeBits bits s) = _
    rw [takeBits, if_neg (show bits.length ≠ Config.frameBits from hl)]
    rfl
  · have e : exec (.crcFailure k f crc) s = .next (takeBadCrc k f crc s) := by
      show Host.Outcome.next (takeWhole k f crc s) = _
      rw [takeWhole, if_neg hx]
    obtain ⟨lp, e', hl, hlost, hsup, hslot, h1, h2, h3⟩ := takeBadCrc_eq k f crc s
    rw [e'] at e
    have h256 := frameBits_length k f crc
    refine ⟨_, e, ⟨rfl, hl, hslot⟩, ⟨h1.trans (List.take_of_length_le h256.le), h2.trans h256, ?_⟩, hlost, hsup⟩
    show lp.dataOut = _
    rw [h3, h256, shiftedOut_whole]
  · obtain ⟨lp, e, hm⟩ := takeFrame_clockFrame hs.2 (requestBits k f)
    refine ⟨takeUnknown k f s, ?_, ?_⟩
    · show Host.Outcome.next (takeValid k f s) = _
      rw [takeValid, catalogue_unknown hk]
    · have h : takeUnknown k f s = reply k f.tag .refusedUnknown [] { s with lp := lp } :=
        congrArg (reply k f.tag .refusedUnknown []) e
      rw [h]
      exact reply_replied rfl hm k f _ _
  · obtain ⟨size, handler, hc⟩ := catalogue_of_row hr
    rw [bodySize_of_catalogue hc]
    refine ⟨fun hl => answers_of_row hr hc ?_, fun hl hk => answers_of_row hr hc ?_⟩
    · rw [takeRequest_wrongLength hl]
      exact takeRequest_kept hs hs.1 rfl rfl fun _ _ => rfl
    · exact takeRequest_kept hs hs.1 rfl hl fun lp _ => handler_refuses hc (s := { s with lp := lp }) hk f
end

section
/-! O6 and O7: what every request frame does before, and beside, its request. -/

namespace Sys2Proof.Machine

open Sys2Proof

/-- A request frame fills the buffer, shifts the reply out, restarts supervision and loses no notice unseen (R3, R17, R19, R22). -/
theorem takeValid_frame (k : Byte) (f : Request) (s : State) :
    let t := takeValid k f s
    Clocked (requestBits k f) s.lp t.lp
      ∧ (k ≠ 8 → k ≠ 9 → t.lp.supervision = if s.inRun then some (s.time + 1000 * s.lp.tLink) else s.lp.supervision)
      ∧ (k ≠ 2 → k ≠ 8 → ∃ more : Bool, t.lp.lost = (lostAfter s.lp || more) ∧ t.lp.lostMarker = (s.lp.lostMarker || more)
          ∧ (more = true → k = 4 ∨ 16 ≤ t.lp.notices.length)) := by
  obtain ⟨st, body, u, hfr, hh, -, e⟩ := takeValid_does k f s
  intro t
  obtain ⟨c1, c2, c3⟩ := requestBits_clocked hfr
  obtain ⟨d1, d2, d3⟩ := hh.clocked
  have ht : t = reply k f.tag st body u := e
  rw [ht]
  refine ⟨⟨d1.trans c1, d2.trans c2, d3.trans c3⟩, fun h8 h9 => ?_, fun h2 h8 => ?_⟩
  · show u.lp.supervision = _
    rw [hh.supervision h8 h9, hfr.supervision, Nat.mul_comm]
    rfl
  · obtain ⟨more, l1, l2, l3⟩ := hfr.losses
    obtain ⟨⟨more', m1, m2, m3⟩, hn⟩ := hh.losses h2 h8
    refine ⟨more || more', ?_, ?_, fun h => ?_⟩
    · show u.lp.lost = _
      rw [m1, l1, Bool.or_assoc]
    · show u.lp.lostMarker = _
      rw [m2, l2, Bool.or_assoc]
    · show k = 4 ∨ 16 ≤ u.lp.notices.length
      rcases Bool.or_eq_true_iff.1 h with h | h
      · exact hn.imp_right (l3 h).trans
      · exact m3 h

/-- The six flags of the part summary by their bits (R2). -/
theorem summary_bits (a b c d e g : Bool) :
    let p : Byte := BitVec.ofNat 8 (32 * a.toNat + 16 * b.toNat + 8 * c.toNat + 4 * d.toNat + 2 * e.toNat + g.toNat)
    p.getLsbD 0 = g ∧ p.getLsbD 1 = e ∧ p.getLsbD 2 = d ∧ p.getLsbD 3 = c ∧ p.getLsbD 4 = b ∧ p.getLsbD 5 = a
      ∧ p.getLsbD 6 = false ∧ p.getLsbD 7 = false := by
  revert a b c d e g
  decide

/-- Some entry is in a state when their count is not 0 (R204). -/
theorem countP_entries (ft : Vector FaultEntry 47) (x : EntryState) :
    decide (0 < ft.toList.countP fun e => decide (e.state = x)) = decide (∃ i : Fin 47, (ft[i]).state = x) := by
  rw [decide_eq_decide, List.countP_pos_iff]
  constructor
  · rintro ⟨e, he, hx⟩
    obtain ⟨i, hi, rfl⟩ := Vector.getElem_of_mem (Vector.mem_toList_iff.1 he)
    exact ⟨⟨i, hi⟩, of_decide_eq_true hx⟩
  · rintro ⟨i, hx⟩
    exact ⟨ft[i], Vector.mem_toList_iff.2 (Vector.getElem_mem _), decide_eq_true hx⟩

theorem partSummary_bits (s : State) :
    let p := partSummary s
    p.getLsbD 0 = s.inRun ∧ p.getLsbD 1 = s.lp.attn ∧ p.getLsbD 2 = s.lp.lost ∧ p.getLsbD 3 = decide (s.lp.link ≠ .up)
      ∧ p.getLsbD 4 = decide (∃ i : Fin 47, (s.ft[i]).state = .active)
      ∧ p.getLsbD 5 = decide (∃ i : Fin 47, (s.ft[i]).state = .latched)
      ∧ p.getLsbD 6 = false ∧ p.getLsbD 7 = false := by
  rw [← countP_entries, ← countP_entries]
  exact summary_bits _ _ _ _ _ _

/-- A reply's bytes: its head with the body padded by zeros, and the CRC, high byte first (R2, R4). -/
theorem mkReply_bytes (kind tag status summary : Byte) {body : List Byte} (h : body.length ≤ 26) :
    let head := [kind, tag, status, summary] ++ body ++ List.replicate (26 - body.length) 0
    (mkReply kind tag status summary body).bytes =
      head ++ [BitVec.ofNat 8 ((crc16 head).toNat / 256), BitVec.ofNat 8 (crc16 head).toNat] := by
  intro head
  have e : replyHead kind tag status summary (padTo 26 body) = head := by
    rw [padTo_of_le h, replyHead]
    simp [head]
  unfold mkReply ReplyFrame.bytes
  dsimp only
  rw [e]
  rfl

theorem byte_ofNat_mod (n : Nat) : BitVec.ofNat 8 (n % 256) = BitVec.ofNat 8 n := by
  apply BitVec.eq_of_toNat_eq
  simp

/-- A signed field of two bytes is two's complement (R8). -/
theorem beInt_eq {v : Int} (h1 : -32768 ≤ v) (h2 : v ≤ 32767) : beInt v = be16 (if v < 0 then v + 65536 else v).toNat := by
  have e : (BitVec.ofInt 16 v).toNat = (if v < 0 then v + 65536 else v).toNat := by
    rw [BitVec.toNat_ofInt]
    split <;> omega
  rw [beInt, e]

theorem toInt_byte (b : Byte) : b.toInt = if b.toNat < 128 then (b.toNat : Int) else b.toNat - 256 := by
  rw [BitVec.toInt_eq_toNat_cond]
  have := b.isLt
  split <;> split <;> omega

theorem toInt_word {n : Nat} (h : n < 65536) : (BitVec.ofNat 16 n).toInt = if n < 32768 then (n : Int) else n - 65536 := by
  rw [BitVec.toInt_eq_toNat_cond, BitVec.toNat_ofNat, Nat.mod_eq_of_lt h]
  split <;> split <;> omega

theorem u8_lt (f : Request) (i : Nat) : f.u8 i < 256 := (f.byte i).isLt

theorem u16_lt (f : Request) (i : Nat) : f.u16 i < 65536 := by
  have h1 := u8_lt f i
  have h2 := u8_lt f (i + 1)
  unfold Request.u16
  omega

/-- The state with the link restored: RESTORED_WAIT, LINK_RESTORED posted and LINK_LOST ended (R23). -/
def restored (s : State) : State :=
  ftEnd fLinkLost (post .linkRestored (min 65535 ((s.time - s.lp.lossTime) / 1000)) 0
    { s with lp := { s.lp with link := .restoredWait } })

theorem restored_eq (s : State) : restored s = { s with
    lp := offerAll (noticeOf s .linkRestored 2 .lp (min 65535 ((s.time - s.lp.lossTime) / 1000)) 0 :: endedNote s fLinkLost)
      { s.lp with link := .restoredWait }
    ft := if (s.ft[fLinkLost]).state = .active then
      s.ft.set fLinkLost { s.ft[fLinkLost] with state := .latched, last := s.time } else s.ft } := by
  rw [restored, ftEnd_quiet_eq _ _ (by simp)]
  rfl

/-- Posting reads and writes nothing of the frame buffer, data out and the supervision timer. -/
theorem offerAll_clocked (ns : List Notice) (lp : LinkPort) (frame : List Bool) (n : Nat) (out : List Bool) (sup : Option Nat) :
    offerAll ns { lp with frame := frame, bitCount := n, dataOut := out, supervision := sup }
      = { offerAll ns lp with frame := frame, bitCount := n, dataOut := out, supervision := sup } := by
  induction ns generalizing lp with
  | nil => rfl
  | cons m ns ih => exact ih (offerNotice m lp)

theorem restored_kept (s : State) : (restored s).lp.slot = s.lp.slot ∧ (restored s).lp.link = .restoredWait
    ∧ (restored s).lp.tLink = s.lp.tLink ∧ (restored s).inRun = s.inRun := by
  have hlp := offerAll_posted (noticeOf s .linkRestored 2 .lp (min 65535 ((s.time - s.lp.lossTime) / 1000)) 0 :: endedNote s fLinkLost)
    { s.lp with link := .restoredWait }
  rw [restored_eq]
  exact ⟨by rw [hlp], by rw [hlp], by rw [hlp], rfl⟩

/-- Restoring the link commutes with what a frame's bits and the supervision timer write. -/
theorem restored_clocked (s : State) (frame : List Bool) (n : Nat) (out : List Bool) (sup : Option Nat) :
    restored { s with lp := { s.lp with frame := frame, bitCount := n, dataOut := out, supervision := sup } }
      = { restored s with lp := { (restored s).lp with frame := frame, bitCount := n, dataOut := out, supervision := sup } } := by
  rw [restored_eq, restored_eq]
  exact congrArg (fun lp => ({ s with lp := lp, ft := _ } : State)) (offerAll_clocked _ { s.lp with link := .restoredWait } _ _ _ _)

theorem restoreLink_framed (s : State) (bits : List Bool) :
    restoreLink (restartSupervision (clockFrame bits s)) = restartSupervision (clockFrame bits (restored s)) := by
  obtain ⟨hslot, -, htl, -⟩ := restored_kept s
  have htime : (restored s).time = s.time := by rw [restored_eq]
  have key : ∀ out sup, out = shiftedOut (restored s).lp.slot bits.length →
      sup = some ((restored s).time + (restored s).lp.tLink * Config.ms) →
      restored { s with lp := { s.lp with frame := bits.take Config.frameBits, bitCount := bits.length, dataOut := out, supervision := sup } }
        = restartSupervision (clockFrame bits (restored s)) := by
    rintro _ _ rfl rfl
    exact restored_clocked s _ _ _ _
  exact key _ _ (by rw [hslot]; rfl) (by rw [htl, htime]; rfl)

/-- A valid frame in RUN with the link LOST is one with the link restored (R23). -/
theorem takeFrame_restores {s : State} (hr : s.inRun = true) (hl : s.lp.link = .lost) (bits : List Bool) :
    takeFrame (clockFrame bits s) = takeFrame (clockFrame bits (restored s)) := by
  obtain ⟨-, hlink, -, hrun⟩ := restored_kept s
  unfold takeFrame
  rw [if_pos (show (clockFrame bits s).inRun = true from hr), if_pos (show (clockFrame bits s).lp.link = .lost from hl),
    if_pos (show (clockFrame bits (restored s)).inRun = true from hrun.trans hr),
    if_neg (show (clockFrame bits (restored s)).lp.link ≠ .lost from fun h => by cases hlink.symm.trans h), restoreLink_framed]

/-- A frame's request sees nothing of the state but what taking its frame leaves. -/
theorem takeValid_congr {k : Byte} {f : Request} {s t : State}
    (h : takeFrame (clockFrame (requestBits k f) s) = takeFrame (clockFrame (requestBits k f) t)) :
    takeValid k f s = takeValid k f t := by
  unfold takeValid takeRequest takeUnknown
  unfold requestBits at h
  rw [h]

end Sys2Proof.Machine

open Sys2Proof Sys2Proof.Machine

/-- Settles O6: clause by clause, from what every request frame does and the bytes of a reply. -/
theorem frameShiftsTheReplyOut : Obligations.FrameShiftsTheReplyOut := by
  unfold Obligations.FrameShiftsTheReplyOut
  refine ⟨fun c k f s h => ⟨_, exec_of_request h s, takeValid_frame k f s⟩,
    fun kind tag status summary body h => mkReply_bytes kind tag status summary h,
    ⟨rfl, fun l b => ?_⟩, partSummary_bits, fun n v b h1 h2 => ⟨fun _ => rfl, ?_, beInt_eq h1 h2, ?_⟩,
    fun f i => ⟨rfl, rfl, toInt_byte _, toInt_word (u16_lt f i)⟩, by decide⟩
  · rw [crc16_append]
    simp only [byteBits, List.foldl_cons, List.foldl_nil, crcBit_eq]
  · rw [be16, byte_ofNat_mod]
  · cases b <;> rfl

/-- Settles O7: the frame restores the link first, and its request sees the state with the link restored. -/
theorem restoringFrameThenRunsItsRequest : Obligations.RestoringFrameThenRunsItsRequest := by
  unfold Obligations.RestoringFrameThenRunsItsRequest
  intro c k f s hc hr hl r
  have e : r = restored s := rfl
  rw [e]
  refine ⟨?_, (restored_kept s).2.1, fun ha => ?_, ?_⟩
  · rw [exec_of_request hc, exec_of_request hc, takeValid_congr (takeFrame_restores hr hl _)]
  · rw [restored_eq]
    dsimp only
    rw [if_pos ha]
    simp
  · rw [restored_eq]
    exact ⟨rfl, rfl, rfl, rfl⟩
end

section
/-! O8: what POLL, STATUS and READ report. -/

namespace Sys2Proof.Machine

open Sys2Proof

/-- STATUS reports the flag as the delivery test leaves it and clears its marker with it (R12, R19). -/
theorem takeStatus (f : Request) {s : State} (h : Ready s) (hl : f.len.toNat = 0) :
    let lost := lostAfter s.lp
    let t := takeRequest 2 0 reqStatus f s
    t.lp.lost = lost ∧
      Replied 2 f .ok
        (be8 s.pc.part.code ++ be8 s.lp.link.code ++ be8 s.lp.policy.code ++ be16 s.lp.tLink ++ be8 s.lp.threshold
          ++ be8 s.lp.notices.length ++ beBool lost ++ be16 (s.time / 1000 % 65536) ++ be8 (countActive s.ft)
          ++ be8 (countLatched s.ft))
        { s with lp := { s.lp with lostMarker := s.lp.lostMarker && !lost } } t := by
  intro lost t
  obtain ⟨lp, ⟨hm, hlost⟩, e⟩ := takeRequest_answers h hl reqStatus (kind := 2)
  obtain ⟨hn, hth, htl, hp, hk, hmk, -, -⟩ := hm.fields
  have ht : t = reply 2 f.tag .ok (statusBytes { s with lp := lp })
      { s with lp := { lp with lostMarker := lp.lostMarker && !lp.lost } } := by
    show takeRequest 2 0 reqStatus f s = _
    rw [e, settle_of_zero (s := (reqStatus f { s with lp := lp }).after) h.1]
    rfl
  have hb : statusBytes { s with lp := lp } = be8 s.pc.part.code ++ be8 s.lp.link.code ++ be8 s.lp.policy.code
      ++ be16 s.lp.tLink ++ be8 s.lp.threshold ++ be8 s.lp.notices.length ++ beBool lost ++ be16 (s.time / 1000 % 65536)
      ++ be8 (countActive s.ft) ++ be8 (countLatched s.ft) := by
    unfold statusBytes
    dsimp only
    rw [hn, hth, htl, hp, hk, hlost]
    rfl
  rw [ht, hb]
  refine ⟨hlost, rfl, ⟨?_, hm.2⟩, rfl⟩
  clear hb ht e
  obtain ⟨fr, bc, out, l, sup, sl, rfl, -⟩ := hm.form
  obtain rfl : l = lostAfter s.lp := hlost
  rfl

/-- READ answers the item read from the state as any frame finds it (R13). -/
theorem read_answers {f : Request} {s : State} {item : ReadItem} {body : List Byte} (h : Ready s) (hl : f.len = 2)
    (hi : decReadItem (f.u8 0) = some item) (hb : ∀ lp, readItem { s with lp := lp } item (f.u8 1) = some body) :
    Answers (.read f) s 3 f .ok body s :=
  answers_of_row rfl (show catalogue 3 = some (2, reqRead) from rfl)
    (takeRequest_kept h h.1 rfl (by rw [hl]; rfl) fun lp _ => by simp only [reqRead, hi, hb])

/-- READ of an item or an index out of range is refused (R13). -/
theorem read_refuses {f : Request} {s : State} (h : Ready s) (hl : f.len = 2)
    (hi : ∀ lp, ∀ item, decReadItem (f.u8 0) = some item → readItem { s with lp := lp } item (f.u8 1) = none) :
    Answers (.read f) s 3 f .refusedRange [] s := by
  refine answers_of_row rfl (show catalogue 3 = some (2, reqRead) from rfl)
    (takeRequest_kept h h.1 rfl (by rw [hl]; rfl) fun lp _ => ?_)
  unfold reqRead
  split
  · rfl
  · rename_i item hd
    rw [hi lp item hd]
    rfl

/-- A role's entry of the snapshot, with zeros where it is not present (R56). -/
theorem snapshotBytes_eq (s : State) (r : Fin 16) :
    let n := s.mu.snapshot
    let x := n.entries[r]
    snapshotBytes s r = be16 n.run ++ beTime n.time ++ be8 r.val
      ++ (if x.present then [1] ++ beInt x.value ++ beBool x.valid ++ be16 x.age else [0, 0, 0, 0, 0, 0])
      ++ beBool s.mu.run.isSome ++ beBool s.mu.stopPending := by
  unfold snapshotBytes
  dsimp only
  cases s.mu.snapshot.entries[r].present with
  | true => simp [beBool, be8]
  | false => simp [beBool, be8, beInt, be16]

theorem frontBytes_eq (r : FrontDrive) : frontBytes r =
    beTime r.changeTime ++ be8 r.state.code ++ be8 r.prev.code ++ be8 r.mode.code ++ be8 r.want.code
      ++ be8 r.blocked.code ++ beBool r.causeConfig ++ beBool r.causeSupply ++ beBool r.causeOutput
      ++ beBool r.causeLink ++ beBool r.slipDemand ++ (if r.state = .engageWait then beTime r.waitStart else [0, 0]) := rfl

theorem queueBytes_eq (q : List ShiftEntry) : queueBytes q = be8 q.length ++ q.flatMap fun e =>
    be8 (if e.kind = .gear then 0 else 1) ++ be8 e.gear ++ be8 e.dir.code ++ beTime e.time := by
  have h : entryBytes = fun e : ShiftEntry =>
      be8 (if e.kind = .gear then 0 else 1) ++ be8 e.gear ++ be8 e.dir.code ++ beTime e.time := by
    funext e
    have hk : e.kind.code = if e.kind = .gear then 0 else 1 := by cases e.kind <;> rfl
    rw [entryBytes, hk]
  rw [queueBytes, h]

end Sys2Proof.Machine

open Sys2Proof Sys2Proof.Machine

/-- Settles O8: each reply is the record's bytes as its chapter orders them, and the owner changes nothing but STATUS its marker. -/
theorem pollStatusAndReadReport : Obligations.PollStatusAndReadReport := by
  unfold Obligations.PollStatusAndReadReport
  refine ⟨fun f s h hl => ?_, fun f s h hl => ?_, fun f s h hl => ?_, by decide⟩
  · exact ⟨_, rfl, takeRequest_kept h h.1 rfl (by rw [hl]; rfl) fun _ _ => rfl⟩
  · exact ⟨_, rfl, takeStatus f h (by rw [hl]; rfl)⟩
  · intro item time gives n m e d w r0 r b
    refine ⟨fun k hi hk => ?_, fun hi => ?_, fun hi => ?_, fun hi => ?_, fun hi => ?_, fun hi => ?_, fun hi => ?_, fun hi => ?_,
      fun k hi hk => ?_, fun hi => ?_, fun hr => read_refuses h hl fun lp it hd => ?_⟩
    · refine read_answers h hl (item := .snapshot) (by rw [show f.u8 0 = 0 from hi]; rfl) fun lp => ?_
      rw [hk]
      show (if h : k.val < 16 then some (snapshotBytes { s with lp := lp } ⟨k.val, h⟩) else none) = _
      rw [dif_pos k.isLt]
      exact congrArg some (snapshotBytes_eq { s with lp := lp } k)
    · exact read_answers h hl (item := .motion) (by rw [show f.u8 0 = 1 from hi]; rfl) fun lp => rfl
    · exact read_answers h hl (item := .engine) (by rw [show f.u8 0 = 2 from hi]; rfl) fun lp => rfl
    · exact read_answers h hl (item := .driveline) (by rw [show f.u8 0 = 3 from hi]; rfl) fun lp => rfl
    · exact read_answers h hl (item := .window) (by rw [show f.u8 0 = 4 from hi]; rfl) fun lp => rfl
    · exact read_answers h hl (item := .hitch) (by rw [show f.u8 0 = 5 from hi]; rfl) fun lp => rfl
    · exact read_answers h hl (item := .front) (by rw [show f.u8 0 = 6 from hi]; rfl) fun lp => rfl
    · exact read_answers h hl (item := .brake) (by rw [show f.u8 0 = 7 from hi]; rfl) fun lp => rfl
    · refine read_answers h hl (item := .fault) (by rw [show f.u8 0 = 8 from hi]; rfl) fun lp => ?_
      rw [hk]
      show (if h : k.val < 47 then some (faultBytes { s with lp := lp } ⟨k.val, h⟩) else none) = _
      rw [dif_pos k.isLt]
      rfl
    · refine read_answers h hl (item := .queue) (by rw [show f.u8 0 = 9 from hi]; rfl) fun lp => ?_
      exact congrArg some (queueBytes_eq s.sc.queue)
    · rcases hr with hr | ⟨hi, hr⟩ | ⟨hi, hr⟩
      · exfalso
        revert hd
        unfold decReadItem
        split <;> simp <;> omega
      · rw [show f.u8 0 = 0 from hi] at hd
        cases hd
        exact dif_neg (by omega)
      · rw [show f.u8 0 = 8 from hi] at hd
        cases hd
        exact dif_neg (by omega)
end

section
/-! O9, O10 and O11: the notice queue and the LP's settings. -/

namespace Sys2Proof.Machine

open Sys2Proof

/-- The LP with its queue and settings written and ATTN evaluated again, with what a frame writes and without (R18, R20, R21). -/
theorem TakenLp.settings {a b : LinkPort} (h : TakenLp a b) (q : List Notice) (n tl : Nat) (p : Policy) :
    TakenLp { a with notices := q, threshold := n, tLink := tl, policy := p, attn := decide (∃ x ∈ q, x.level = 3 ∨ n ≤ x.level) }
      (evalAttn { b with notices := q, threshold := n, tLink := tl, policy := p }) := by
  obtain ⟨⟨e, hm⟩, hl⟩ := h
  refine ⟨⟨?_, hm⟩, hl⟩
  unfold evalAttn
  rw [attnOf_eq]
  dsimp only
  conv_lhs => rw [e]

theorem lowestLevel_le {q : List Notice} {m : Notice} (h : m ∈ q) : lowestLevel q ≤ m.level := by
  have key : ∀ (l : List Notice) (b : Nat), l.foldl (fun m n => min m n.level) b ≤ b
      ∧ ∀ x ∈ l, l.foldl (fun m n => min m n.level) b ≤ x.level := by
    intro l
    induction l with
    | nil => simp
    | cons a l ih =>
      intro b
      obtain ⟨h1, h2⟩ := ih (min b a.level)
      simp only [List.foldl_cons, List.mem_cons, forall_eq_or_imp]
      exact ⟨h1.trans (min_le_left _ _), h1.trans (min_le_right _ _), h2⟩
  exact (key q 3).2 m h

/-- The lowest level present, where it is one of the four levels (R17). -/
theorem lowestLevel_eq {q : List Notice} {m : Notice} (h : m ∈ q) (hm : m.level ≤ 3) (hl : ∀ x ∈ q, m.level ≤ x.level) :
    lowestLevel q = m.level := by
  refine le_antisymm (lowestLevel_le h) ?_
  rcases lowestLevel_mem q with e | ⟨x, hx, e⟩
  · rw [e]; exact hm
  · rw [e]; exact hl x hx

/-- A notice offered to a full queue takes the place of the oldest of the lowest level, or is discarded (R17). -/
theorem offer_full {n m : Notice} {a b : List Notice} (hn : n.level ≤ 3) (hf : 16 ≤ (a ++ m :: b).length)
    (hl : ∀ x ∈ a ++ m :: b, m.level ≤ x.level) (ha : ∀ x ∈ a, m.level < x.level) :
    (offer n (a ++ m :: b)).1 = if m.level < n.level then a ++ b ++ [n] else a ++ m :: b := by
  have hmem : m ∈ a ++ m :: b := by simp
  unfold offer
  rw [if_neg (show ¬(a ++ m :: b).length < Config.noticeCap from Nat.not_lt.2 hf)]
  by_cases h : m.level < n.level
  · have e := lowestLevel_eq hmem (by omega) hl
    rw [e, if_pos h, if_pos h]
    dsimp only
    rw [List.eraseP_append_right _ (fun x hx => by simpa using (ha x hx).ne'), List.eraseP_cons_of_pos (by simp)]
  · rw [if_neg h]
    have : ¬lowestLevel (a ++ m :: b) < n.level := by
      rcases Nat.lt_or_ge 3 m.level with h3 | h3
      · have : 3 ≤ lowestLevel (a ++ m :: b) := by
          rcases lowestLevel_mem (a ++ m :: b) with e | ⟨x, hx, e⟩
          · omega
          · have := hl x hx
            omega
        omega
      · rw [lowestLevel_eq hmem h3 hl]
        exact h
    rw [if_neg this]

theorem offer_full_lost (n : Notice) {q : List Notice} (h : q.length = 16) : (offer n q).2 = true := by
  unfold offer
  rw [if_neg (show ¬q.length < Config.noticeCap by rw [h]; decide)]
  split <;> rfl

theorem be16_eq (n : Nat) : be16 n = [BitVec.ofNat 8 (n / 256), BitVec.ofNat 8 (n % 256)] := by
  rw [be16, byte_ofNat_mod]

/-- The nine bytes of a notice (R15). -/
theorem noticeBytes_eq (n : Notice) :
    let high (n : Nat) : Byte := BitVec.ofNat 8 (n / 256)
    let low (n : Nat) : Byte := BitVec.ofNat 8 (n % 256)
    let at_ := n.time / 1000 % 65536
    noticeBytes n = [low n.kind.code, low n.level, low n.source.code, high at_, low at_, high n.v1.toNat, low n.v1.toNat,
      high n.v2.toNat, low n.v2.toNat] := by
  intro high low at_
  simp only [noticeBytes, beTime, be16_eq, be8, stamp, Config.ms, Config.wrap16, high, low, at_, byte_ofNat_mod,
    List.cons_append, List.nil_append]

theorem decPolicy_eq {n : Nat} (h : n ≤ 1) : decPolicy n = some (if n = 0 then .hold else .safe) := by
  interval_cases n <;> rfl

theorem decPolicy_none {n : Nat} (h : 1 < n) : decPolicy n = none := by
  unfold decPolicy
  split <;> first | rfl | omega

end Sys2Proof.Machine

open Sys2Proof Sys2Proof.Machine

/-- Settles O9: the owner takes the two at the head, and a notice is its nine bytes. -/
theorem fetchNoticeRemovesTheOldestTwo : Obligations.FetchNoticeRemovesTheOldestTwo := by
  unfold Obligations.FetchNoticeRemovesTheOldestTwo
  refine ⟨fun f s h hl => ⟨?_, fun n _ => rfl⟩, fun i j level time v1 v2 _ => ?_⟩
  · have h0 : f.len.toNat = 0 := by rw [hl]; rfl
    refine answers_of_row rfl (show catalogue 4 = some (0, reqFetchNotice) from rfl)
      (takeRequest_replied h (by exact h.1) h0 fun lp hm => ?_)
    obtain ⟨hn, hth, htl, hp, -⟩ := hm.1.fields
    refine ⟨_, hm.settings (s.lp.notices.drop 2) s.lp.threshold s.lp.tLink s.lp.policy, ?_⟩
    unfold reqFetchNotice
    dsimp only
    rw [hn, List.length_take, ← hth, ← htl, ← hp]
  · intro kinds blocks high low at_
    have hk : ∀ i : Fin 18, (kinds.getD i.val .shiftDone).code = i.val := by decide
    have hb : ∀ j : Fin 10, (blocks.getD j.val .lp).code = j.val := by decide
    rw [noticeBytes_eq]
    dsimp only
    rw [hk, hb]

/-- Settles O10: the three places an offered notice can go, by the queue's length and the lowest level in it. -/
theorem noticeQueueOffersByLevel : Obligations.NoticeQueueOffersByLevel := by
  unfold Obligations.NoticeQueueOffersByLevel
  intro n lp hn q r
  refine ⟨fun hl => ?_, fun hl => ⟨?_, fun a m b hq hlow ha => ?_⟩, ?_⟩
  · have e : offer n q = (q ++ [n], false) := if_pos hl
    show offerNotice n lp = { lp with notices := q ++ [n], attn := (offerNotice n lp).attn }
    unfold offerNotice
    rw [show offer n lp.notices = (q ++ [n], false) from e]
    simp [evalAttn]
  · have e : (offer n lp.notices).2 = true := offer_full_lost n hl
    show offerNotice n lp = { lp with
      notices := (offerNotice n lp).notices, lost := true, lostMarker := true, attn := (offerNotice n lp).attn }
    unfold offerNotice
    simp [evalAttn, e]
  · show (offer n q).1 = _
    rw [hq] at hl hlow ⊢
    exact offer_full hn hl.ge hlow ha
  · rw [show r.attn = attnOf lp.threshold r.notices from rfl, attnOf_eq, decide_eq_true_iff]

/-- Settles O11: SET_NOTICE_LEVEL and CFG_LINK by their checks, each answer writing the settings alone. -/
theorem noticeLevelAndLinkSettings : Obligations.NoticeLevelAndLinkSettings := by
  unfold Obligations.NoticeLevelAndLinkSettings
  intro withThreshold
  refine ⟨fun f s h hl => ⟨fun hr => ?_, fun hr => ?_⟩, fun f s h hl => ?_⟩
  · have h1 : f.len.toNat = 1 := by rw [hl]; rfl
    refine answers_of_row rfl (show catalogue 5 = some (1, reqSetNoticeLevel) from rfl)
      (takeRequest_replied h (by exact h.1) h1 fun lp hm => ?_)
    obtain ⟨hn, hth, htl, hp, -⟩ := hm.1.fields
    refine ⟨_, hm.settings s.lp.notices (f.u8 0) s.lp.tLink s.lp.policy, ?_⟩
    unfold reqSetNoticeLevel
    rw [if_pos hr, ← hn, ← htl, ← hp]
    rfl
  · refine answers_of_row rfl (show catalogue 5 = some (1, reqSetNoticeLevel) from rfl)
      (takeRequest_kept h h.1 rfl (by rw [hl]; rfl) fun lp _ => if_neg (by omega))
  · intro inRanges policy same
    have row : ∀ {u : State} {st : Status}, u.undelivered = 0 →
        (∀ lp, TakenLp s.lp lp → ∃ lp', TakenLp u.lp lp' ∧ reqCfgLink f { s with lp := lp } = ⟨st, [], { u with lp := lp' }⟩) →
        Answers (.cfgLink f) s 6 f st [] u := fun hu hh =>
      answers_of_row rfl (show catalogue 6 = some (4, reqCfgLink) from rfl) (takeRequest_replied h hu (by rw [hl]; rfl) hh)
    have hdec : inRanges → decPolicy (f.u8 2) = some policy := fun hr => decPolicy_eq hr.2.2.1
    have hchk : inRanges → ¬((!inRange 20 1000 (f.u16 0) || !inRange 0 3 (f.u8 3)) = true) := by
      rintro ⟨h1, h2, -, h4⟩
      simp [inRange, h1, h2, h4]
    refine ⟨fun hr => row h.1 fun lp hm => ⟨lp, hm, ?_⟩, fun hr hc => row h.1 fun lp hm => ?_,
      fun hr hc hs => row h.1 fun lp hm => ⟨lp, hm, ?_⟩, fun hr hc hs => row h.1 fun lp hm => ?_⟩
    all_goals unfold reqCfgLink
    · split
      · rfl
      · rename_i p hp
        have h1 : f.u8 2 ≤ 1 := by
          by_contra h1
          rw [decPolicy_none (by omega)] at hp
          cases hp
        rw [if_pos]
        · rfl
        · by_contra hx
          simp only [inRange, Bool.or_eq_true, Bool.not_eq_true', decide_eq_false_iff_not, not_or, not_not] at hx
          exact hr ⟨hx.1.1, hx.1.2, h1, hx.2.2⟩
    · obtain ⟨hn, -⟩ := hm.1.fields
      refine ⟨_, hm.settings s.lp.notices (f.u8 3) (f.u16 0) policy, ?_⟩
      rw [hdec hr]
      dsimp only
      rw [if_neg (hchk hr), if_neg (show ¬({ s with lp := lp } : State).inRun = true by rw [show ({ s with lp := lp } : State).inRun = false from hc]; decide), ← hn]
      rfl
    · obtain ⟨-, -, htl, hp, -⟩ := hm.1.fields
      rw [hdec hr]
      dsimp only
      rw [if_neg (hchk hr), if_pos (show ({ s with lp := lp } : State).inRun = true from hc), if_neg]
      · rfl
      · rw [htl, hp]; exact hs
    · obtain ⟨hn, -, htl, hp, -⟩ := hm.1.fields
      refine ⟨_, hm.settings s.lp.notices (f.u8 3) s.lp.tLink s.lp.policy, ?_⟩
      rw [hdec hr]
      dsimp only
      rw [if_neg (hchk hr), if_pos (show ({ s with lp := lp } : State).inRun = true from hc), if_pos, ← hn, ← htl, ← hp]
      · rfl
      · rw [htl, hp]; exact hs
end

section
/-! O14, O2 and O3: RESTART, power-on and the reset state. -/

namespace Sys2Proof.Machine

open Sys2Proof

/-- A valid frame keeps the LP's settings (R3, R7). -/
theorem takeFrame_settings (bits : List Bool) (s : State) :
    let lp := (takeFrame (clockFrame bits s)).lp
    lp.tLink = s.lp.tLink ∧ lp.policy = s.lp.policy ∧ lp.threshold = s.lp.threshold := by
  obtain ⟨u, hu, e⟩ := takeFrame_within bits s
  rw [e, deliveryTest_eq]
  dsimp only
  rw [hu.posted]
  exact ⟨rfl, rfl, rfl⟩

end Sys2Proof.Machine

open Sys2Proof Sys2Proof.Machine

/-- Settles O14: RESTART's answer on the state that its frame leaves. -/
theorem restartKeepsTablesAndStopsEverything : Obligations.RestartKeepsTablesAndStopsEverything := by
  unfold Obligations.RestartKeepsTablesAndStopsEverything
  intro f s hl
  obtain ⟨u, hu⟩ : ∃ u, u = takeFrame (clockFrame (requestBits 8 f) s) := ⟨_, rfl⟩
  have hlen : f.len.toNat = 0 := by rw [hl]; rfl
  have e : exec (.restart f) s = .next (reply 8 f.tag .ok [] (restartPart u)) := by
    show Host.Outcome.next (takeRequest 8 0 reqRestart f s) = _
    unfold takeRequest
    rw [show takeFrame (clockFrame (bytesBits (frameBytes 8 f (crc16 (frameHead 8 f)))) s) = u from hu.symm]
    dsimp only
    rw [if_pos hlen, settle_of_zero (s := (reqRestart f u).after) rfl]
    rfl
  obtain ⟨htl, hp, hth⟩ := takeFrame_settings (requestBits 8 f) s
  have same : u.time = s.time ∧ u.pending = s.pending ∧ u.pc = s.pc ∧ u.vo = s.vo ∧ u.sc = s.sc ∧ u.fdm = s.fdm ∧ u.hc = s.hc
      ∧ u.tbc = s.tbc ∧ u.mu = s.mu ∧ u.me = s.me := by
    rw [hu]
    simp
  rw [← hu] at htl hp hth
  obtain ⟨h1, h2, h3, h4, h5, h6, h7, h8, h9, h10⟩ := same
  refine ⟨_, e, rfl, h1, h2, rfl, ?_, rfl, rfl, rfl, rfl, rfl, rfl, htl, hp, hth, ?_, fun i => ?_, ?_, ?_, ?_, ?_, fun i => ?_, ?_,
    fun r => ?_, ?_⟩
  · rw [← h3]; rfl
  · rw [← h4]; rfl
  · rw [← h4]; simp [restartPart]
  · rw [← h5, ← h1]; rfl
  · rw [← h6, ← h1]; rfl
  · rw [← h7, ← h1]; rfl
  · rw [← h8, ← h1]; rfl
  · simp [restartPart]
  · rw [← h9]; rfl
  · rw [← h9]; simp [restartPart, restartMeasure]
  · rw [← h10]; rfl

/-- Settles O2: the reset state, field by field. -/
theorem powerOnGivesTheResetState : Obligations.PowerOnGivesTheResetState := by
  unfold Obligations.PowerOnGivesTheResetState
  refine ⟨fun s => rfl, rfl, rfl, rfl, rfl, ?_, ?_, ?_, rfl, ?_, ?_, rfl, rfl, rfl, ?_, ?_⟩
  iterate 5 decide
  · intro i; simp [State.reset]
  · exact ⟨rfl, rfl, rfl, rfl, rfl, rfl, rfl, rfl, rfl, rfl, rfl⟩

/-- Settles O3: each invariant, evaluated on the reset state. -/
theorem resetMeetsTheInvariants : Obligations.ResetMeetsTheInvariants := by
  unfold Obligations.ResetMeetsTheInvariants ValvesSafe ChanSafe HitchSafe FrontSafe Coherent
  refine ⟨reset_bounded, rfl, ?_, ?_, ?_, ?_⟩ <;> decide
end

section
/-! SUPPORT. What the end of an event keeps beyond `settle_keeps`: the notices by their own queue, the causes of the FDM, and a
brake record that stands (R17, R141, R149, R177). -/

namespace Sys2Proof.Machine

open Sys2Proof

/-- The queue that offers leave depends on the queue alone. -/
theorem offerAll_notices {a b : LinkPort} (h : a.notices = b.notices) (ns : List Notice) :
    (offerAll ns a).notices = (offerAll ns b).notices := by
  induction ns generalizing a b with
  | nil => exact h
  | cons n ns ih =>
    refine ih ?_
    show (offer n a.notices).1 = (offer n b.notices).1
    rw [h]

/-- The causes of FORCED (R149). -/
def FrontDrive.causes (f : FrontDrive) : Bool × Bool × Bool × Bool := (f.causeConfig, f.causeSupply, f.causeOutput, f.causeLink)

theorem fdmChange_causes (new : FrontState) (s : State) : (fdmChange new s).fdm.causes = s.fdm.causes := by
  simp [fdmChange, FrontDrive.causes]

theorem fdmGuarded_causes (dwell : Bool) (new : FrontState) (s : State) : (fdmGuarded dwell new s).fdm.causes = s.fdm.causes := by
  unfold fdmGuarded
  split
  · exact fdmChange_causes _ _
  all_goals rfl

theorem fdmAct_causes (s : State) : (fdmAct s).fdm.causes = s.fdm.causes := by
  unfold fdmAct
  dsimp only
  repeat' split
  all_goals simp only [fdmChange_causes, fdmGuarded_causes]

theorem fdmEvaluate_causes (s : State) : (fdmEvaluate false s).fdm.causes = s.fdm.causes := by
  unfold fdmEvaluate
  rw [fdmAct_causes]
  rfl

/-- The delivery of brake record publications sets and clears no cause of FORCED (R141, R149). -/
theorem settle_causes (s : State) : (settle s).fdm.causes = s.fdm.causes := by
  unfold settle
  generalize Config.deliveryFuel = n
  induction n generalizing s with
  | zero => rfl
  | succ n ih =>
    unfold deliverBrake
    split
    · rfl
    · rw [ih, fdmEvaluate_causes]
      simp

/-- The end of a TBC event changes nothing of the TBC where the brake record stands (R177, R178). -/
theorem tbcFinish_quiet {s : State} (h : BrakeQuiet s) :
    (tbcFinish s).tbc = s.tbc ∧ (tbcFinish s).undelivered = s.undelivered := by
  obtain ⟨hp, -, hc⟩ := h
  have hf : (tbcForm s).tbc = s.tbc := by
    unfold tbcForm
    dsimp only
    rw [hc]
    simp
  have hpub : { (tbcForm s).tbc.cur with time := (tbcForm s).tbc.pub.time } = (tbcForm s).tbc.pub := by
    rw [hf, hp]
  constructor
  · rw [tbcFinish_tbc, tbcPublish, if_pos hpub, hf]
  · unfold tbcFinish
    dsimp only
    unfold tbcPublish
    rw [if_pos (by simpa using hpub)]
    simp

end Sys2Proof.Machine
end

section
/-! O12: RESUME. -/

namespace Sys2Proof.Machine

open Sys2Proof

/-- The hitch leaves HELD at a resume where no other cause holds it (R173). -/
abbrev LeavesHold (h : Hitch) : Prop := h.state = .held ∧ h.causeRequest = false ∧ h.causeSupply = false

/-- The hitch record once it is told to resume (R173). -/
def hitchTold (h : Hitch) : Hitch :=
  { h with causeLink := false, ret := if h.state = .held then .lockedOut else h.ret }

/-- The hitch record after a resume at time `t` (R153, R173). -/
def hitchResumed (t : Nat) (h : Hitch) : Hitch :=
  if LeavesHold h then { hitchTold h with
    prev := .held, state := .lockedOut, changeTime := t, raiseCmd := 0, lowerCmd := 0 }
  else hitchTold h

/-- What a resume makes of the hitch: the change to LOCKED_OUT with its notice where it leaves HELD (R153, R173). -/
theorem hcOnResume_eq (s : State) : ∃ vo, vo = { s.vo with chan := vo.chan }
    ∧ (¬LeavesHold s.hc → vo = s.vo)
    ∧ (LeavesHold s.hc → (vo.chan[chRaise]).command = 0 ∧ (vo.chan[chLower]).command = 0)
    ∧ hcOnResume s = { s with
        vo := vo
        lp := offerAll (if LeavesHold s.hc then [noticeOf s .hitchState 0 .hc 0 5] else []) s.lp
        hc := hitchResumed s.time s.hc } := by
  have e : hcOnResume s = hcUnhold { s with hc := hitchTold s.hc } := rfl
  have hc : (hitchTold s.hc).state = .held ∧ (hitchTold s.hc).anyCause = false ↔ LeavesHold s.hc := by
    simp [hitchTold, Hitch.anyCause]
  rw [e, hcUnhold, hitchResumed]
  by_cases h : LeavesHold s.hc
  · have hr : (hitchTold s.hc).ret = .lockedOut := if_pos h.1
    obtain ⟨vo, hv, e'⟩ := hcChange_rest (new := .lockedOut) (by simp) .lockedOut { s with hc := hitchTold s.hc }
    refine ⟨vo, hv.rest, fun x => absurd h x, fun _ => ⟨hv.raise, hv.lower⟩, ?_⟩
    rw [if_pos (hc.2 h), if_pos h, if_pos h]
    dsimp only
    rw [hr, e']
    have hs : (hitchTold s.hc).state = .held := h.1
    simp [settledIn, hcEnter, hs, HitchState.code]
  · exact ⟨s.vo, rfl, fun _ => rfl, fun x => absurd x h, by rw [if_neg (fun x => h (hc.1 x)), if_neg h, if_neg h]; rfl⟩

/-! ### The state before the TBC ends its event -/

/-- A resume told to the FT, the FDM, the HC and the TBC, before the TBC forms its commands (R24). -/
def resumeTold (s : State) : State :=
  modBrake (fun b => { b with policyOn := false })
    (hcOnResume (fdmOnResume (ftZero fLinkLost { s with lp := { s.lp with link := .up } })))

theorem resumeLink_eq (s : State) : resumeLink s = tbcFinish (resumeTold s) := rfl

/-- A resume told, field by field (R24, R151, R173, R195). -/
theorem resumeTold_eq (s : State) : ∃ vo, resumeTold s = { s with
      lp := offerAll (if LeavesHold s.hc then [noticeOf s .hitchState 0 .hc 0 5] else []) { s.lp with link := .up }
      ft := s.ft.set fLinkLost {}
      fdm := { s.fdm with causeLink := false }
      vo := vo
      hc := hitchResumed s.time s.hc
      tbc := { s.tbc with cur := { s.tbc.cur with policyOn := false } } }
    ∧ vo.supply = s.vo.supply
    ∧ (¬LeavesHold s.hc → vo = s.vo)
    ∧ (LeavesHold s.hc → (vo.chan[chRaise]).command = 0 ∧ (vo.chan[chLower]).command = 0) := by
  obtain ⟨vo, hrest, hstay, hleave, e⟩ := hcOnResume_eq (fdmOnResume (ftZero fLinkLost { s with lp := { s.lp with link := .up } }))
  refine ⟨vo, ?_, ?_, hstay, hleave⟩
  · unfold resumeTold
    rw [e]
    rfl
  · have := congrArg ValveOut.supply hrest
    exact this

/-! ### The end of the event -/

/-- The link, LINK_LOST, the cause of the FDM, and what is kept (R24, R151). -/
theorem resumeLink_link (s : State) :
    let t := settle (resumeLink s)
    t.lp.link = .up ∧ t.ft[fLinkLost] = {} ∧ t.fdm.causeLink = false ∧ KeepsMeasures s t ∧ t.vo.supply = s.vo.supply := by
  intro t
  obtain ⟨vo, e, hsup, -⟩ := resumeTold_eq s
  obtain ⟨-, k2, -, -, -, k6⟩ := settle_keeps (resumeLink s)
  have hlp := ((Within.refl (resumeTold s)).tbcFinish.settle).posted
  have hf := congrArg (fun x => x.2.2.2) (settle_causes (resumeLink s))
  refine ⟨?_, ?_, ?_, by simp [t, KeepsMeasures], ?_⟩
  · show (settle (tbcFinish (resumeTold s))).lp.link = .up
    rw [hlp, e]
    dsimp only
    rw [offerAll_posted]
  · show (settle (resumeLink s)).ft[fLinkLost] = {}
    rw [k6 _ (by decide) (by decide), resumeLink_eq]
    simp [e]
  · refine hf.trans ?_
    show (resumeLink s).fdm.causeLink = false
    rw [resumeLink_eq]
    simp [e]
  · show (settle (resumeLink s)).vo.supply = _
    rw [k2, resumeLink_eq, tbcFinish_supply, e]
    exact hsup

/-- The policy pressure is out of the brake record (R195). -/
theorem resumeLink_brake (s : State) : BrakeShows { s.tbc.cur with policyOn := false } s (settle (resumeLink s)) := by
  obtain ⟨vo, e, hsup, -⟩ := resumeTold_eq s
  have hforms : BrakeForms { s.tbc.cur with policyOn := false } s (resumeTold s) := by
    refine ⟨?_, ?_, ?_, ?_, ?_, ?_, ?_, ?_, ?_⟩ <;> rw [e]
    · exact fun x => absurd rfl x
    · exact fun x => absurd rfl x
    · exact fun _ x => x
  refine hforms.finish.shows fun _ => BrakeRests.finish { hforms with drive := ?_, queue := ?_, supply := ?_, pre := ?_ }
  all_goals rw [e]
  exact hsup

/-- The hitch (R173). -/
theorem resumeLink_hitch (s : State) :
    let t := settle (resumeLink s)
    t.hc = hitchResumed s.time s.hc
      ∧ (¬LeavesHold s.hc → t.vo.chan[chRaise] = s.vo.chan[chRaise] ∧ t.vo.chan[chLower] = s.vo.chan[chLower])
      ∧ (LeavesHold s.hc → (t.vo.chan[chRaise]).command = 0 ∧ (t.vo.chan[chLower]).command = 0) := by
  obtain ⟨vo, e, -, hstay, hleave⟩ := resumeTold_eq s
  obtain ⟨k1, -, -, k4, k5, -⟩ := settle_keeps (resumeLink s)
  have hchan : ∀ j : Fin 14, j.val < 12 → (resumeLink s).vo.chan[j] = vo.chan[j] := fun j hj => by
    rw [resumeLink_eq, tbcFinish_other hj, e]
  refine ⟨?_, fun h => ?_, fun h => ?_⟩
  · rw [k1, resumeLink_eq]
    simp [e]
  · rw [k4, k5, hchan _ (by decide), hchan _ (by decide), hstay h]
    exact ⟨rfl, rfl⟩
  · rw [k4, k5, hchan _ (by decide), hchan _ (by decide)]
    exact hleave h

/-- Where the brake record stands nothing else changes at the SC and the FDM, and nothing else is posted (R24). -/
theorem resumeLink_quiet {s : State} (hz : s.undelivered = 0) (hq : BrakeQuiet s) (hp : s.tbc.cur.policyOn = false) :
    let t := settle (resumeLink s)
    t.fdm = { s.fdm with causeLink := false } ∧ t.sc = s.sc
      ∧ t.lp = offerAll (if LeavesHold s.hc then [noticeOf s .hitchState 0 .hc 0 5] else []) { s.lp with link := .up } := by
  intro t
  obtain ⟨vo, e, -⟩ := resumeTold_eq s
  have hb : { s.tbc.cur with policyOn := false } = s.tbc.cur := by rw [← hp]
  have hq' : BrakeQuiet (resumeTold s) := by
    rw [e, hb]
    exact hq
  have ht : t = tbcFinish (resumeTold s) := by
    refine settle_of_zero ((tbcFinish_quiet hq').2.trans ?_)
    rw [e]
    exact hz
  rw [ht]
  simp only [tbcFinish_same]
  rw [e]
  exact ⟨rfl, rfl, rfl⟩

end Sys2Proof.Machine

open Sys2Proof Sys2Proof.Machine

/-- Settles O12: the owner's answer from the FT to the TBC, then the delivery of what the TBC published. -/
theorem resumeReturnsTheJobs : Obligations.ResumeReturnsTheJobs := by
  unfold Obligations.ResumeReturnsTheJobs
  refine ⟨fun f s h hl hk => ?_, fun f s h hl hk => ?_⟩
  · obtain ⟨lp, ⟨hm, -⟩, e⟩ := takeRequest_answers h (show f.len.toNat = 0 by rw [hl]; rfl) reqResume (kind := 7)
    obtain ⟨hn, -, -, -, hlink, -⟩ := hm.fields
    have ha : reqResume f { s with lp := lp } = ⟨.ok, [], resumeLink { s with lp := lp }⟩ := if_pos (hlink.trans hk)
    rw [ha] at e
    dsimp only at e
    obtain ⟨h1, h2, h3, h4, h5⟩ := resumeLink_link { s with lp := lp }
    obtain ⟨h6, h7, h8⟩ := resumeLink_hitch { s with lp := lp }
    have hbrake := resumeLink_brake { s with lp := lp }
    have hquiet := resumeLink_quiet (s := { s with lp := lp }) h.1
    generalize settle (resumeLink { s with lp := lp }) = t at e h1 h2 h3 h4 h5 h6 h7 h8 hbrake hquiet
    refine ⟨_, congrArg Host.Outcome.next e, rfl, h1, h2, h3, hbrake,
      ⟨fun hx => ⟨h6.trans (if_neg hx), h7 hx⟩, fun hx => ⟨h6.trans (if_pos hx), h8 hx⟩, fun hq hp => ?_⟩, h4, h5⟩
    obtain ⟨q1, q2, q3⟩ := hquiet hq hp
    refine ⟨q1, q2, ?_⟩
    show t.lp.notices = _
    rw [q3]
    exact offerAll_notices (by exact hn) _
  · refine answers_of_row rfl (show catalogue 7 = some (0, reqResume) from rfl)
      (takeRequest_kept h h.1 rfl (by rw [hl]; rfl) fun lp hm => ?_)
    obtain ⟨-, -, -, -, hlink, -⟩ := hm.1.fields
    exact if_neg (by rw [hlink, hk]; decide)
end

section
/-! SUPPORT. What the announcement of a link loss keeps at the blocks it does not concern, and the driveline record and the
clutches through the events of the FDM, the HC and the TBC (R110, R135, R151, R173, R195). -/

namespace Sys2Proof.Machine

open Sys2Proof

/-! ### The SC's part of a link loss -/

@[simp] theorem enterIdle_timeoutFault (s : State) : (enterIdle s).sc.timeoutFault = s.sc.timeoutFault := by
  simp [enterIdle, scPublish_pub]

@[simp] theorem enterAborting_timeoutFault (s : State) : (enterAborting s).sc.timeoutFault = s.sc.timeoutFault := by
  simp [enterAborting, evalAbove, scPublish_pub]

/-- Every queued entry is dropped with its notice (R135). -/
theorem dropAll_eq (s : State) : dropAll s = { s with
    lp := offerAll (s.sc.queue.map fun e => noticeOf s .shiftDropped 2 .sc e.gear 4) s.lp
    sc := { s.sc with queue := [] } } := by
  have key : ∀ (l : List ShiftEntry) (t : State), t.time = s.time →
      l.foldl (fun s e => post .shiftDropped e.gear DropReason.link.code s) t
        = { t with lp := offerAll (l.map fun e => noticeOf s .shiftDropped 2 .sc e.gear 4) t.lp } := by
    intro l
    induction l with
    | nil => intro t _; rfl
    | cons e l ih =>
      intro t ht
      rw [List.foldl_cons, ih _ (by exact ht)]
      show _ = { t with lp := offerAll _ (offerNotice (noticeOf s .shiftDropped 2 .sc e.gear 4) t.lp) }
      unfold noticeOf
      rw [← ht]
      rfl
  unfold dropAll
  rw [key _ s rfl]
  rfl

/-- The queue lost: every entry dropped, a PENDING head back in IDLE (R135). -/
def loseQueue (s : State) : State :=
  if s.sc.pub.state = .pending then enterIdle (dropAll s) else dropAll s

/-- The SC as the loss of its queue at time `t` leaves it. -/
def queueLost (t : Nat) (c : ShiftCtl) : ShiftCtl :=
  if c.pub.state = .pending then
    { c with
      queue := [], shift := none, modDue := none, supplyWait := none, brakeWait := none
      pub := { c.pub with
        time := t, state := .idle, kind := .none, sense := .none, phase := .none, step := 0, tgtDir := .n, tgtGear := 0 } }
  else { c with queue := [] }

/-- A publication of the driveline record writes only the two trailer lines (R178). -/
theorem scPublish_other (d : Driveline) (s : State) :
    (∀ j : Fin 14, j.val < 12 → (scPublish d s).vo.chan[j] = s.vo.chan[j]) ∧ (scPublish d s).vo.supply = s.vo.supply := by
  unfold scPublish
  split
  · exact ⟨fun _ _ => rfl, rfl⟩
  · unfold tbcOnDriveline
    exact ⟨fun j hj => by rw [tbcFinish_other hj]; simp, by simp⟩

/-- A publication of a driveline record that is not STEPPING changes nothing of the TBC where the brake record stands (R177,
R189). -/
theorem scPublish_quiet {s : State} (h : BrakeQuiet s) {d : Driveline} (hd : d.state ≠ .stepping) :
    (scPublish d s).tbc = s.tbc ∧ (scPublish d s).undelivered = s.undelivered := by
  unfold scPublish
  split
  · exact ⟨rfl, rfl⟩
  · have hp : preBrakeTest { s with sc := { s.sc with pub := { d with time := s.time } } }
        = { s with sc := { s.sc with pub := { d with time := s.time } } } := by
      unfold preBrakeTest
      rw [if_neg (by simp [preBrakeQualifies, hd]), if_neg h.2.1]
    unfold tbcOnDriveline
    rw [hp]
    exact tbcFinish_quiet h

/-- A publication of the driveline record, field by field (R110, R178). -/
theorem scPublish_eq (d : Driveline) (s : State) : ∃ vo tbc n tm, scPublish d s = { s with
      sc := { s.sc with pub := { d with time := tm } }, vo := vo, tbc := tbc, undelivered := n }
    ∧ (∀ j : Fin 14, j.val < 12 → vo.chan[j] = s.vo.chan[j]) ∧ vo.supply = s.vo.supply
    ∧ (¬{ d with time := s.sc.pub.time } = s.sc.pub → tm = s.time)
    ∧ (BrakeQuiet s → d.state ≠ .stepping → tbc = s.tbc ∧ n = s.undelivered) := by
  obtain ⟨h1, h2⟩ := scPublish_other d s
  obtain ⟨e1, e2, e3, e4, e5, e6, e7, e8, e9⟩ := scPublish_same d s
  have hsc := scPublish_pub d s
  refine ⟨(scPublish d s).vo, (scPublish d s).tbc, (scPublish d s).undelivered,
    if { d with time := s.sc.pub.time } = s.sc.pub then s.sc.pub.time else s.time, ?_, h1, h2, fun h => if_neg h,
    fun hq hd => scPublish_quiet hq hd⟩
  generalize scPublish d s = y at *
  cases y
  dsimp only at hsc e1 e2 e3 e4 e5 e6 e7 e8 e9
  rw [hsc, e1, e2, e3, e4, e5, e6, e7, e8, e9]

/-- The loss of the queue, field by field (R135). -/
theorem loseQueue_eq (s : State) : ∃ vo tbc n, loseQueue s = { s with
      lp := offerAll (s.sc.queue.map fun e => noticeOf s .shiftDropped 2 .sc e.gear 4) s.lp
      sc := queueLost s.time s.sc, vo := vo, tbc := tbc, undelivered := n }
    ∧ (∀ j : Fin 14, j.val < 12 → vo.chan[j] = s.vo.chan[j]) ∧ vo.supply = s.vo.supply
    ∧ (BrakeQuiet s → tbc = s.tbc ∧ n = s.undelivered) := by
  unfold loseQueue queueLost
  by_cases hp : s.sc.pub.state = .pending
  · rw [if_pos hp, if_pos hp]
    obtain ⟨x, hx⟩ : ∃ x : State, x = { s with
      lp := offerAll (s.sc.queue.map fun e => noticeOf s .shiftDropped 2 .sc e.gear 4) s.lp
      sc := { s.sc with queue := [], shift := none, modDue := none, supplyWait := none, brakeWait := none } } := ⟨_, rfl⟩
    obtain ⟨d, hd⟩ : ∃ d : Driveline, d = { s.sc.pub with
      state := .idle, kind := .none, sense := .none, phase := .none, step := 0, tgtDir := .n, tgtGear := 0 } := ⟨_, rfl⟩
    have e : enterIdle (dropAll s) = scPublish d x := by rw [dropAll_eq, hd, hx]; rfl
    have hne : ¬{ d with time := x.sc.pub.time } = x.sc.pub := by
      intro h
      have := congrArg Driveline.state h
      rw [hd, hx] at this
      exact absurd (this.trans hp) ShiftState.noConfusion
    obtain ⟨vo, tbc, n, tm, e', h1, h2, h3, h4⟩ := scPublish_eq d x
    rw [e, e', h3 hne]
    subst hx hd
    exact ⟨vo, tbc, n, rfl, h1, h2, fun hb => h4 hb ShiftState.noConfusion⟩
  · rw [if_neg hp, if_neg hp, dropAll_eq]
    exact ⟨s.vo, s.tbc, s.undelivered, rfl, fun _ _ => rfl, rfl, fun _ => ⟨rfl, rfl⟩⟩

/-- What the SC does at a link loss by the policy (R135). -/
theorem scOnLoss_eq (s : State) : scOnLoss s = match s.lp.policy with
    | .hold => loseQueue s
    | .safe => (neutralAct (loseQueue s)).2 := by
  have hs : (dropAll s).sc.pub.state = s.sc.pub.state := by rw [dropAll_eq]
  have hp : (loseQueue s).lp.policy = s.lp.policy := by
    obtain ⟨vo, tbc, n, e, -⟩ := loseQueue_eq s
    rw [e]
    dsimp only
    rw [offerAll_posted]
  unfold scOnLoss
  dsimp only
  rw [hs]
  show (match (loseQueue s).lp.policy with | .hold => loseQueue s | .safe => _) = _
  rw [hp]
  rfl

namespace Tame

variable {F : Fin 47 → Prop} {P : State → Prop} (h : Tame F P)
include h

theorem loseQueue {s : State} (hs : P s) : P (loseQueue s) := by
  obtain ⟨lp, sc, e⟩ : ∃ lp sc, dropAll s = { s with lp := lp, sc := sc } := ⟨_, _, dropAll_eq s⟩
  have hd : P (dropAll s) := by
    rw [e]
    exact h.sc { s with lp := lp } sc (h.lp s lp hs)
  unfold Machine.loseQueue
  split
  · exact h.enterIdle hd
  · exact hd

theorem neutralAct (hF : F fFillTimeout ∧ F fSyncTimeout) {s : State} (hk : KnownTimeout s) (hs : P s) :
    P (neutralAct s).2 := by
  have he : P (emptyQueue s) := h.sc _ _ hs
  have ha : P (Machine.endTimeout (Machine.enterAborting (emptyQueue s))) := by
    refine h.endTimeout (h.enterAborting he) fun i hi => ?_
    rw [enterAborting_timeoutFault] at hi
    rcases hk i hi with rfl | rfl
    · exact hF.1
    · exact hF.2
  unfold Machine.neutralAct
  split
  · split
    · exact he
    · split
      · exact h.beginShift hF (fun s hs => h.pendHeads hF hs _) he _ _
      · exact h.enterAborting he
  · exact ha
  · exact ha
  · exact ha
  · exact he

/-- Everything that keeps the SC's writes keeps a link loss at the SC. -/
theorem scOnLoss (hF : F fFillTimeout ∧ F fSyncTimeout) {s : State} (hk : KnownTimeout s) (hs : P s) : P (scOnLoss s) := by
  rw [scOnLoss_eq]
  split
  · exact h.loseQueue hs
  · refine h.neutralAct hF ?_ (h.loseQueue hs)
    obtain ⟨vo, tbc, n, e, -⟩ := loseQueue_eq s
    intro i hi
    refine hk i ?_
    rw [e] at hi
    unfold queueLost at hi
    split at hi
    · exact hi
    · exact hi

theorem fdmOnLoss {s : State} (hs : P s) : P (fdmOnLoss s) := by
  unfold Machine.fdmOnLoss fdmForce
  split
  · exact hs
  · dsimp only
    split
    · exact h.fdm _ _ hs
    · exact h.fdmChange (h.fdm _ _ hs) _

end Tame

/-- A property that the TBC's writes, posts and the end of TRL_SUPP_LOW keep is kept by a link loss at the TBC (R195). -/
theorem tbcOnLoss_keeps {P : State → Prop} (lp : ∀ s x, P s → P { s with lp := x }) (tbc : ∀ s x, P s → P { s with tbc := x })
    (finish : ∀ s, P s → P (tbcFinish s)) (low : ∀ s, P s → P (ftEnd fSuppLow s)) {s : State} (hs : P s) :
    P (tbcOnLoss s) := by
  have abort : ∀ s, P s → P (checkAbort s) := fun s hs => by
    obtain ⟨x, y, e⟩ : ∃ x y, checkAbort s = { s with lp := x, tbc := y } := ⟨_, _, checkAbort_eq s⟩
    rw [e]
    exact tbc { s with lp := x } y (lp s x hs)
  have pre : ∀ s, P s → P (preBrakeMode s) := fun s hs => by
    unfold preBrakeMode preBrakeTest
    dsimp only
    split
    · exact tbc _ _ hs
    · split
      · exact tbc _ _ hs
      · split
        · exact tbc _ _ hs
        · exact hs
  have charge : ∀ old s, P s → P (chargeAct old s) := fun old s hs => by
    unfold chargeAct lowDiscard
    dsimp only
    split
    · exact low _ (tbc _ _ hs)
    · split
      · exact low _ (tbc _ _ hs)
      · exact hs
  have park : ∀ s, P s → P (policyPark s) := fun s hs => by
    unfold policyPark applyMode
    exact tbc _ _ (lp _ _ (charge _ _ (tbc _ _ (pre _ (tbc _ _ (abort _ hs))))))
  unfold tbcOnLoss
  split
  · exact finish _ hs
  · refine finish _ ?_
    have ha := abort _ hs
    split
    · exact ha
    · split
      · exact park _ ha
      · exact tbc _ _ ha

end Sys2Proof.Machine
end

section
/-! SUPPORT. The driveline record and the clutches stand through the events of the FDM, the HC and the TBC and through the
delivery of the brake record, but for above_window and the window itself (R105 to R111). -/

namespace Sys2Proof.Machine

open Sys2Proof

/-- The SC of `t` is that of `s` but for the gear window, above_window and the record's time, with the same clutch commands; and
above_window stays off outside forward. -/
structure DriveStands (s t : State) : Prop where
  sc : t.sc = { s.sc with
    window := t.sc.window, pub := { s.sc.pub with time := t.sc.pub.time, above := t.sc.pub.above } }
  above : s.sc.pub.dir ≠ .f → s.sc.pub.above = false → t.sc.pub.above = false
  clutch : ∀ c : Fin 9, (t.vo.chan[clutchChan c]).command = (s.vo.chan[clutchChan c]).command

namespace DriveStands

theorem refl (s : State) : DriveStands s s := ⟨rfl, fun _ h => h, fun _ => rfl⟩

variable {s0 s : State} (h : DriveStands s0 s)
include h

/-- A change outside the SC and the clutch channels. -/
theorem congr {t : State} (hsc : t.sc = s.sc)
    (hv : ∀ c : Fin 9, (t.vo.chan[clutchChan c]).command = (s.vo.chan[clutchChan c]).command) : DriveStands s0 t :=
  ⟨by rw [hsc]; exact h.sc, by rw [hsc]; exact h.above, fun c => (hv c).trans (h.clutch c)⟩

/-- A write of a channel that is no clutch. -/
theorem writeChan {i : Fin 14} (hi : 9 ≤ i.val) (cmd : Nat) : DriveStands s0 (writeChan i cmd s) :=
  h.congr (by simp) fun c => by
    rw [writeChan_other]
    intro e
    have := c.isLt
    have he : i.val = c.val := congrArg Fin.val e
    omega

theorem tbcFinish : DriveStands s0 (tbcFinish s) :=
  h.congr (by simp) fun c => by rw [tbcFinish_other (by have := c.isLt; show c.val < 12; omega)]

theorem evalAbove : DriveStands s0 (evalAbove s) := by
  have hdir : s.sc.pub.dir = s0.sc.pub.dir := by rw [h.sc]
  have e := h.sc
  refine ⟨?_, fun hd _ => ?_, fun c => ?_⟩
  · unfold Machine.evalAbove
    rw [scPublish_pub, e]
  · unfold Machine.evalAbove
    rw [scPublish_pub]
    exact decide_eq_false fun x => hd (hdir.symm.trans x.1)
  · unfold Machine.evalAbove
    rw [(scPublish_other _ _).1 _ (by have := c.isLt; show c.val < 12; omega)]
    exact h.clutch c

theorem scWindow (always : Bool) : DriveStands s0 (scWindow always s) := by
  unfold Machine.scWindow
  extract_lets old w ab _ u v
  have hu : DriveStands s0 u := ⟨by show { s.sc with window := w } = _; rw [h.sc], h.above, h.clutch⟩
  have hv : DriveStands s0 v := by
    show DriveStands s0 (if _ then _ else _)
    split
    · exact hu.congr rfl fun _ => rfl
    · exact hu
  unfold postAbove
  split
  · exact hv.evalAbove.congr rfl fun _ => rfl
  · exact hv.evalAbove

theorem ftEnd (i : Fin 47) : DriveStands s0 (ftEnd i s) := by
  unfold Machine.ftEnd ftTell
  dsimp only
  split
  · have hp := h.congr (t := post .faultEnded i.val (s.ft[i]).count
      (modFault i { s.ft[i] with state := .latched, last := s.time } s)) rfl fun _ => rfl
    split
    · exact hp.scWindow false
    · exact hp
  · exact h
  · exact h

theorem fdmChange (new : FrontState) : DriveStands s0 (fdmChange new s) := by
  unfold Machine.fdmChange
  have h1 := (h.congr (t := { s with fdm := { s.fdm with
    prev := s.fdm.state, state := new, changeTime := s.time
    waitStart := if decide (new = .engageWait) then s.time else 0
    wait := if decide (new = .engageWait) then some (s.time + Config.frontWaitTime) else none } }) rfl fun _ => rfl)
  exact (h1.writeChan (i := chFront) (by decide) _).congr rfl fun _ => rfl

theorem fdmGuarded (dwell : Bool) (new : FrontState) : DriveStands s0 (fdmGuarded dwell new s) := by
  unfold Machine.fdmGuarded
  split
  · exact h.fdmChange _
  all_goals exact h.congr rfl fun _ => rfl

theorem fdmAct : DriveStands s0 (fdmAct s) := by
  unfold Machine.fdmAct
  dsimp only
  repeat' split
  all_goals first
    | exact h
    | exact h.fdmChange _
    | exact h.fdmGuarded _ _

theorem fdmEvaluate : DriveStands s0 (fdmEvaluate false s) :=
  (h.congr (t := { s with fdm := { s.fdm with want := fdmWant s, blocked := .none } }) rfl fun _ => rfl).fdmAct

theorem fdmOnLoss : DriveStands s0 (fdmOnLoss s) := by
  unfold Machine.fdmOnLoss fdmForce
  split
  · exact h
  · have h1 := h.congr (t := { s with fdm := { s.fdm with causeLink := true } }) rfl fun _ => rfl
    split
    · exact h1
    · exact h1.fdmChange _

theorem tbcOnLoss : DriveStands s0 (tbcOnLoss s) :=
  tbcOnLoss_keeps (fun _ _ h => h.congr rfl fun _ => rfl) (fun _ _ h => h.congr rfl fun _ => rfl)
    (fun _ h => h.tbcFinish) (fun _ h => h.ftEnd _) h

/-- With no head PENDING, the delivery of brake record publications moves no clutch and starts nothing (R134, R141). -/
theorem settle (hp : s0.sc.pub.state ≠ .pending) : DriveStands s0 (settle s) := by
  unfold Machine.settle
  generalize Config.deliveryFuel = n
  induction n generalizing s with
  | zero => exact h.congr rfl fun _ => rfl
  | succ n ih =>
    unfold deliverBrake
    split
    · exact h
    · have hb : DriveStands s0 (scOnBrake { s with undelivered := s.undelivered - 1 }) := by
        have hw := (h.congr (t := { s with undelivered := s.undelivered - 1 }) rfl fun _ => rfl).scWindow false
        have hs : (Machine.scWindow false { s with undelivered := s.undelivered - 1 }).sc.pub.state = s0.sc.pub.state := by
          rw [hw.sc]
        unfold scOnBrake
        dsimp only
        rw [if_neg (by rw [hs]; exact hp)]
        exact hw
      exact ih hb.fdmEvaluate

end DriveStands

/-! ### The front drive and the hitch -/

/-- The FDM stays FORCED while a cause stands (R150). -/
theorem settle_forced {s : State} (h : s.fdm.state = .forced) (hc : s.fdm.causeLink = true) :
    (settle s).fdm.state = .forced := by
  unfold settle
  generalize Config.deliveryFuel = n
  induction n generalizing s with
  | zero => exact h
  | succ n ih =>
    unfold deliverBrake
    split
    · exact h
    · have hb : (scOnBrake { s with undelivered := s.undelivered - 1 }).fdm = s.fdm := by simp
      generalize scOnBrake { s with undelivered := s.undelivered - 1 } = u at hb ⊢
      have he : fdmEvaluate false u = { u with fdm := { u.fdm with want := fdmWant u, blocked := .none } } := by
        unfold fdmEvaluate fdmAct
        simp [hb, h, FrontDrive.anyCause, hc]
      refine ih ?_ ?_ <;> rw [he]
      · rw [hb]; exact h
      · rw [hb]; exact hc

/-- Under SAFE a link loss forces the front drive (R151). -/
theorem fdmOnLoss_forced {s : State} (h : s.lp.policy = .safe) :
    (fdmOnLoss s).fdm.state = .forced ∧ (fdmOnLoss s).fdm.causeLink = true := by
  unfold fdmOnLoss fdmForce
  rw [h]
  dsimp only
  split
  · exact ⟨‹_›, rfl⟩
  · simp [fdmChange]

/-- A link loss holds the hitch: it moves and no link loss holds it yet (R173). -/
abbrev LiftHeld (h : Hitch) : Prop :=
  h.causeLink = false ∧ (h.state = .control ∨ h.state = .shock ∨ h.state = .headland ∨ h.state = .transport)

/-- The hitch record after a link loss at time `t` (R153, R173). -/
def hitchLost (t : Nat) (h : Hitch) : Hitch :=
  if LiftHeld h then { h with
    causeLink := true, prev := h.state, state := .held, changeTime := t
    ret := if h.state = .shock then .control else h.state, raiseCmd := 0, lowerCmd := 0
    shockTimer := if h.state = .shock then none else h.shockTimer
    stall := if h.state = .control then none else h.stall }
  else { h with causeLink := true }

/-- The HC at a link loss (R173). -/
theorem hcOnLoss_eq (s : State) : ∃ vo, vo = { s.vo with chan := vo.chan }
    ∧ (∀ j : Fin 14, j ≠ chRaise → j ≠ chLower → vo.chan[j] = s.vo.chan[j])
    ∧ (¬LiftHeld s.hc → vo = s.vo)
    ∧ (LiftHeld s.hc → (vo.chan[chRaise]).command = 0 ∧ (vo.chan[chLower]).command = 0)
    ∧ hcOnLoss s = { s with
        vo := vo
        lp := offerAll (if LiftHeld s.hc then [noticeOf s .hitchState 0 .hc 5 s.hc.state.code] else []) s.lp
        hc := hitchLost s.time s.hc } := by
  unfold hcOnLoss hitchLost
  by_cases h : LiftHeld s.hc
  · obtain ⟨hc, hs⟩ := h
    have h : LiftHeld s.hc := ⟨hc, hs⟩
    obtain ⟨vo, hv, e⟩ := hcHold_eq (s := { s with hc := { s.hc with causeLink := true } }) hs
    refine ⟨vo, hv.rest, hv.other, fun x => absurd h x, fun _ => ⟨hv.raise, hv.lower⟩, ?_⟩
    rw [if_neg (by simp [hc]), if_pos h, if_pos h, e]
    rcases hs with hs | hs | hs | hs <;> simp [settledIn, hcEnter, hs]
  · refine ⟨s.vo, rfl, fun _ _ _ => rfl, fun _ => rfl, fun x => absurd x h, ?_⟩
    rw [if_neg h, if_neg h]
    split
    · rename_i hc
      rw [← hc]
      rfl
    · rename_i hc
      exact hcHold_rest (s := { s with hc := { s.hc with causeLink := true } }) fun x => h ⟨by simpa using hc, x⟩

end Sys2Proof.Machine
end

section
/-! SUPPORT. The TBC at a link loss: the record it forms under either policy, and what it keeps of its timers (R183, R192, R195). -/

namespace Sys2Proof.Machine

open Sys2Proof

/-! ### The record it forms -/

/-- An event of the TBC begins with the record it has. -/
theorem BrakeForms.start {s0 s : State} (ht : s.time = s0.time) (hp : s.pc = s0.pc) (hb : s.tbc = s0.tbc) :
    BrakeForms s0.tbc.cur s0 s := by
  refine ⟨ht, hp, ?_, ?_, ?_, ?_, ?_, ?_, ?_⟩ <;> rw [hb]
  · exact fun x => absurd rfl x
  · exact fun x => absurd rfl x
  · exact fun _ x => x

/-- A record is formed as another one in which the TBC has put the same fields, in mode, pre-brake and P_cmd as before or with
pre-brake OFF. -/
theorem BrakeForms.edit {after after' : BrakeRecord} {s0 s t : State} (h : BrakeForms after s0 s)
    (hs : t.time = s.time ∧ t.pc = s.pc) (ht : t.tbc = { s.tbc with
      cur := t.tbc.cur, stage := t.tbc.stage, charge := t.tbc.charge, lowHold := t.tbc.lowHold, runOut := t.tbc.runOut })
    (hc : t.tbc.cur = { after' with
      time := t.tbc.cur.time, preBrake := t.tbc.cur.preBrake, pCmd := t.tbc.cur.pCmd })
    (hp : t.tbc.cur.pCmd = s.tbc.cur.pCmd ∧ after'.pCmd = after.pCmd)
    (hm : t.tbc.cur.preBrake = .off ∨ (t.tbc.cur.preBrake = s.tbc.cur.preBrake ∧ after'.mode = after.mode
      ∧ after'.preBrake = after.preBrake)) : BrakeForms after' s0 t where
  time := hs.1.trans h.time
  pc := hs.2.trans h.pc
  curve := by rw [ht]; exact h.curve
  pPre := by rw [ht]; exact h.pPre
  pSafe := by rw [ht]; exact h.pSafe
  cur := hc
  pub := by rw [ht]; exact h.pub
  hold := by rw [hp.1, hp.2, ht]; exact h.hold
  off := by
    rcases hm with hm | ⟨h1, h2, h3⟩
    · exact fun _ _ => hm
    · rw [h1, h2, h3]; exact h.off

/-- The abort of a line check passes over the time, pre-brake and P_cmd (R192). -/
theorem checkAborted_over (b : BrakeRecord) (t : Nat) (pre : PreBrake) (p : Nat) :
    checkAborted { b with time := t, preBrake := pre, pCmd := p }
      = { checkAborted b with time := t, preBrake := pre, pCmd := p } := by
  unfold checkAborted
  by_cases h : b.check = .idle
  · rw [if_pos h, if_pos h]
  · rw [if_neg h, if_neg h]; rfl

/-- What the abort of a line check leaves of the record (R192). -/
theorem checkAborted_keeps (b : BrakeRecord) : (checkAborted b).check = .idle ∧ (checkAborted b).mode = b.mode
    ∧ (checkAborted b).preBrake = b.preBrake ∧ (checkAborted b).pCmd = b.pCmd ∧ (checkAborted b).time = b.time := by
  unfold checkAborted
  split
  · exact ⟨‹_›, rfl, rfl, rfl, rfl⟩
  · exact ⟨rfl, rfl, rfl, rfl, rfl⟩

theorem BrakeForms.checkAbort {after : BrakeRecord} {s0 s : State} (h : BrakeForms after s0 s) :
    BrakeForms (checkAborted after) s0 (checkAbort s) := by
  obtain ⟨-, hm, hb, hp, -⟩ := checkAborted_keeps after
  obtain ⟨-, -, hb', hp', ht'⟩ := checkAborted_keeps s.tbc.cur
  rw [checkAbort_eq]
  refine h.edit ⟨rfl, rfl⟩ rfl ?_ ⟨hp', hp⟩ (.inr ⟨hb', hm, hb⟩)
  dsimp only
  rw [hb', hp', ht']
  conv_lhs => rw [h.cur]
  exact checkAborted_over _ _ _ _

theorem BrakeForms.policy {after : BrakeRecord} {s0 s : State} (h : BrakeForms after s0 s) (on : Bool) :
    BrakeForms { after with policyOn := on } s0 (modBrake (fun b => { b with policyOn := on }) s) := by
  refine h.edit ⟨rfl, rfl⟩ rfl ?_ ⟨rfl, rfl⟩ (.inr ⟨rfl, rfl, rfl⟩)
  show { s.tbc.cur with policyOn := on } = _
  rw [h.cur]
  rfl

/-- The record of a trailer that goes to PARK (R183, R185, R186). -/
def parked (b : BrakeRecord) : BrakeRecord := { b with mode := .park, preBrake := .off, supp := .vented, chargeOpen := false }

/-- The TBC as the change to PARK leaves it before the low hold's fault entry ends (R183, R186, R187). -/
def parkedBrake (tb : TrailerBrake) : TrailerBrake :=
  { tb with runOut := none, charge := none, lowHold := none, cur := parked tb.cur }

/-- Pre-brake outside ROAD (R183 step 3). -/
theorem preBrakeMode_off {s : State} (h : s.tbc.cur.mode ≠ .road) : preBrakeMode s = { s with
    tbc := { s.tbc with runOut := none, cur := { s.tbc.cur with preBrake := .off } } } := if_pos (.inl h)

/-- The supplementary line is vented where it must be (R185). -/
theorem tbcSuppEnter_vented {s : State} (h : s.tbc.cur.vents = true) : tbcSuppEnter s = { s with
    tbc := { s.tbc with cur := { s.tbc.cur with supp := .vented } } } := by
  have hs : suppEntered s.tbc.cur = .vented := if_pos h
  unfold tbcSuppEnter modBrake
  dsimp only
  rw [hs]

/-- The charge window and the low hold at a change to PARK (R186, R187). -/
theorem chargeAct_park {old : BrakeRecord} {s : State} (ho : old.mode ≠ .park) (h : s.tbc.cur.mode = .park) :
    chargeAct old s = ftEnd fSuppLow { s with
      tbc := { s.tbc with charge := none, lowHold := none, cur := { s.tbc.cur with chargeOpen := false } } } := by
  unfold chargeAct lowDiscard
  dsimp only
  rw [if_neg (by simp [h]), if_pos (by simp [h, ho])]

/-- The change to PARK of a link loss, from another mode with no line check running (R183, R195). -/
theorem policyPark_eq {s : State} (hm : s.tbc.cur.mode ≠ .park) (hc : s.tbc.cur.check = .idle) :
    policyPark s = modBrake (fun b => { b with policyOn := false })
      (post .trailerModeChanged TrailerMode.park.code s.tbc.cur.present.toNat
        (ftEnd fSuppLow { s with tbc := parkedBrake s.tbc })) := by
  have ha : checkAbort s = s := by unfold checkAbort; rw [if_neg (by simp [BrakeRecord.checking, hc])]
  have hv : (s.tbc.cur.verified && !(s.tbc.cur.present && !s.tbc.cur.present)) = s.tbc.cur.verified := by
    cases s.tbc.cur.present <;> simp
  have hp : modBrake (fun b => { b with
      mode := .park, present := s.tbc.cur.present
      verified := b.verified && !(s.tbc.cur.present && !s.tbc.cur.present) }) s
        = { s with tbc := { s.tbc with cur := { s.tbc.cur with mode := .park } } } := by
    unfold modBrake
    dsimp only
    rw [hv]
  unfold policyPark applyMode
  dsimp only
  rw [ha, hp, preBrakeMode_off TrailerMode.noConfusion, tbcSuppEnter_vented (by simp [BrakeRecord.vents, BrakeRecord.checking, hc]),
    chargeAct_park hm rfl]
  rfl

theorem BrakeForms.policyPark {after : BrakeRecord} {s0 s : State} (h : BrakeForms after s0 s) (hm : s.tbc.cur.mode ≠ .park)
    (hc : s.tbc.cur.check = .idle) : BrakeForms { parked after with policyOn := false } s0 (policyPark s) := by
  rw [policyPark_eq hm hc]
  have hp : BrakeForms (parked after) s0 { s with tbc := parkedBrake s.tbc } := by
    refine h.edit ⟨rfl, rfl⟩ rfl ?_ ⟨rfl, rfl⟩ (.inl rfl)
    show parked s.tbc.cur = { parked after with time := s.tbc.cur.time, preBrake := .off, pCmd := s.tbc.cur.pCmd }
    rw [h.cur]
    rfl
  have tame := BrakeForms.tame (parked after) s0
  exact (tame.post (tame.ftEnd hp trivial) _ _ _).policy false

/-- The state in which the TBC ends its event at a link loss under SAFE (R195). -/
def safeLoss (s : State) : State :=
  if (checkAbort s).tbc.cur.mode = .park then checkAbort s
  else if s.me.pub.standstill then policyPark (checkAbort s)
  else modBrake (fun b => { b with policyOn := true }) (checkAbort s)

theorem tbcOnLoss_hold {s : State} (h : s.lp.policy = .hold) : tbcOnLoss s = tbcFinish s := by
  unfold tbcOnLoss
  rw [h]

theorem tbcOnLoss_safe {s : State} (h : s.lp.policy = .safe) : tbcOnLoss s = tbcFinish (safeLoss s) := by
  have hm : (checkAbort s).me = s.me := by simp
  unfold tbcOnLoss safeLoss
  rw [h]
  dsimp only
  rw [hm]

/-- The record that a link loss under SAFE forms of `b`, with the vehicle standing still or not (R195). -/
def safeRecord (still : Bool) (b : BrakeRecord) : BrakeRecord :=
  if b.mode = .park then checkAborted b
  else if still then { parked (checkAborted b) with policyOn := false }
  else { checkAborted b with policyOn := true }

theorem BrakeForms.safeLoss {after : BrakeRecord} {s0 s : State} (h : BrakeForms after s0 s) :
    BrakeForms (safeRecord s.me.pub.standstill after) s0 (safeLoss s) := by
  have ha := h.checkAbort
  have hk := checkAborted_keeps after
  have hm : (Machine.checkAbort s).tbc.cur.mode = after.mode := by rw [ha.cur]; exact hk.2.1
  have hc : (Machine.checkAbort s).tbc.cur.check = .idle := by rw [ha.cur]; exact hk.1
  unfold Machine.safeLoss safeRecord
  rw [hm]
  by_cases hp : after.mode = .park
  · rw [if_pos hp, if_pos hp]; exact ha
  · rw [if_neg hp, if_neg hp]
    split
    · exact ha.policyPark (by rw [hm]; exact hp) hc
    · exact ha.policy true

/-! ### Its timers -/

/-- The end of a TBC event keeps the TBC's timers but the deviation hold (R178). -/
theorem tbcFinish_timers (s : State) : (tbcFinish s).tbc.stage = s.tbc.stage ∧ (tbcFinish s).tbc.charge = s.tbc.charge
    ∧ (tbcFinish s).tbc.lowHold = s.tbc.lowHold ∧ (tbcFinish s).tbc.runOut = s.tbc.runOut
    ∧ (tbcFinish s).tbc.cur.mode = s.tbc.cur.mode := by
  rw [tbcFinish_tbc]
  unfold tbcPublish
  split <;> exact ⟨rfl, rfl, rfl, rfl, rfl⟩

/-- The line check's stage timer is the TBC's own affair (R191). -/
theorem stage_tame (x : Option Nat) : Tame (fun _ => True) (fun s => s.tbc.stage = x) where
  drive s h := by
    have hp : (preBrakeTest s).tbc.stage = s.tbc.stage := by
      unfold preBrakeTest
      dsimp only
      split
      · rfl
      · split <;> rfl
    show (tbcFinish (preBrakeTest s)).tbc.stage = x
    rw [(tbcFinish_timers _).1, hp, h]
  lp _ _ h := h
  sc _ _ h := h
  fdm _ _ h := h
  undelivered _ _ h := h
  chan _ _ _ _ h := by simpa using h
  fault _ _ _ _ h := h

/-- In PARK with pre-brake OFF, with no run-out, charge window or low hold. -/
def AtRest (tb : TrailerBrake) : Prop :=
  tb.cur.mode = .park ∧ tb.cur.preBrake = .off ∧ tb.runOut = none ∧ tb.charge = none ∧ tb.lowHold = none

theorem AtRest.finish {s : State} (h : AtRest s.tbc) : AtRest (tbcFinish s).tbc := by
  obtain ⟨-, h2, h3, h4, h5⟩ := tbcFinish_timers s
  obtain ⟨hm, hp, hr, hc, hl⟩ := h
  exact ⟨h5.trans hm, (tbcFinish_preBrake s).trans hp, h4.trans hr, h2.trans hc, h3.trans hl⟩

/-- A trailer at rest in PARK stays so as the driveline record is published (R189). -/
theorem atRest_tame : Tame (fun _ => True) (fun s => AtRest s.tbc) where
  drive s h := by
    have hp : preBrakeTest s = s := by
      obtain ⟨hm, hp, -⟩ := h
      unfold preBrakeTest
      rw [if_neg (by simp [preBrakeQualifies, hm]), if_neg (by rw [hp]; exact PreBrake.noConfusion)]
    unfold tbcOnDriveline
    rw [hp]
    exact h.finish
  lp _ _ h := h
  sc _ _ h := h
  fdm _ _ h := h
  undelivered _ _ h := h
  chan _ _ _ _ h := by simpa using h
  fault _ _ _ _ h := h

/-- The change to PARK leaves the trailer at rest (R183, R186, R187). -/
theorem policyPark_rests {s : State} (hm : s.tbc.cur.mode ≠ .park) (hc : s.tbc.cur.check = .idle) :
    AtRest (policyPark s).tbc := by
  rw [policyPark_eq hm hc]
  exact atRest_tame.post (atRest_tame.ftEnd (s := { s with tbc := parkedBrake s.tbc }) ⟨rfl, rfl, rfl, rfl, rfl⟩ trivial) _ _ _

/-- The stage timer after a link loss under SAFE (R192). -/
theorem safeLoss_stage (s : State) :
    (safeLoss s).tbc.stage = if s.tbc.cur.check = .idle then s.tbc.stage else none := by
  obtain ⟨hc, hm, -⟩ := checkAborted_keeps s.tbc.cur
  have ha : (checkAbort s).tbc.stage = (if s.tbc.cur.check = .idle then s.tbc.stage else none)
      ∧ (checkAbort s).tbc.cur.check = .idle := by
    rw [checkAbort_eq]
    exact ⟨rfl, hc⟩
  unfold safeLoss
  split
  · exact ha.1
  · split
    · rw [policyPark_eq ‹_› ha.2]
      have tame := stage_tame (if s.tbc.cur.check = .idle then s.tbc.stage else none)
      exact tame.post (tame.ftEnd (s := { checkAbort s with tbc := parkedBrake (checkAbort s).tbc }) ha.1 trivial) _ _ _
    · exact ha.1

/-- An end report of an ACTIVE entry leaves it LATCHED (R198). -/
theorem ftEnd_latched {i : Fin 47} {s : State} (h : (s.ft[i]).state = .active) : ((ftEnd i s).ft[i]).state = .latched := by
  unfold ftEnd
  dsimp only
  split
  · simp
  all_goals simp_all

/-- The change to PARK ends an ACTIVE TRL_SUPP_LOW (R187). -/
theorem policyPark_low {s : State} (hm : s.tbc.cur.mode ≠ .park) (hc : s.tbc.cur.check = .idle)
    (h : (s.ft[fSuppLow]).state = .active) : ((policyPark s).ft[fSuppLow]).state = .latched := by
  obtain ⟨x, hx⟩ : ∃ x : State, x = { s with tbc := parkedBrake s.tbc } := ⟨_, rfl⟩
  have hl : ((ftEnd fSuppLow x).ft[fSuppLow]).state = .latched := ftEnd_latched (by rw [hx]; exact h)
  rw [policyPark_eq hm hc, ← hx]
  generalize ftEnd fSuppLow x = y at hl ⊢
  exact hl

end Sys2Proof.Machine
end

section
/-! SUPPORT. The first modulation update of a shift that begins, and the start of a DISENGAGE (R97 to R100, R120 to R125). -/

namespace Sys2Proof.Machine

open Sys2Proof

/-! ### What a publication writes in the SC -/

@[simp] theorem scPublish_state (d : Driveline) (s : State) : (scPublish d s).sc.pub.state = d.state := by rw [scPublish_pub]

@[simp] theorem scPublish_queue (d : Driveline) (s : State) : (scPublish d s).sc.queue = s.sc.queue := by rw [scPublish_pub]

@[simp] theorem evalAbove_state (s : State) : (evalAbove s).sc.pub.state = s.sc.pub.state := scPublish_state _ _

@[simp] theorem evalAbove_queue (s : State) : (evalAbove s).sc.queue = s.sc.queue := scPublish_queue _ _

@[simp] theorem enterAborting_state (s : State) : (enterAborting s).sc.pub.state = .aborting := by
  unfold enterAborting
  rw [evalAbove_state, scPublish_state]

@[simp] theorem enterRecovering_state (i : Option (Fin 47)) (run : ShiftRun) (cmd : Vector Nat 9) (s : State) :
    (enterRecovering i run cmd s).sc.pub.state = .recovering := by
  unfold enterRecovering
  rw [scPublish_state]

/-- A timeout leaves the SC RECOVERING or ABORTING (R127). -/
theorem stepTimedOut_state (run : ShiftRun) (st : ProfileStep) (cmd : Vector Nat 9) (s : State) :
    (stepTimedOut run st cmd s).sc.pub.state ≠ .pending := by
  unfold stepTimedOut
  extract_lets i detail u v
  split
  · show v.sc.pub.state ≠ _
    rw [enterAborting_state]
    exact ShiftState.noConfusion
  · rw [enterRecovering_state]
    exact ShiftState.noConfusion

/-- With no entry in the queue there is no next head (R116). -/
theorem pendNext_empty {s : State} (h : s.sc.queue = []) : pendNext s = s := by
  unfold pendNext
  rw [h]
  rfl

/-- A shift that begins with the queue empty leaves no head PENDING (R120). -/
theorem beginShift_state {s : State} (h : s.sc.queue = []) (d : Dir) (g : Nat) :
    (beginShift pendNext d g s).sc.pub.state ≠ .pending := by
  have step : ∀ (run : ShiftRun) (u : State), u.sc.queue = [] → (modStepping pendNext run u).sc.pub.state ≠ .pending := by
    intro run u hu
    unfold modStepping applyMod
    split
    · simp [publishStep]
    · unfold shiftComplete
      dsimp only
      rw [pendNext_empty (by simp [hu])]
      simp
    · exact stepTimedOut_state _ _ _ _
  unfold beginShift
  exact step _ _ (by rw [scPublish_queue]; exact h)

/-! ### The first update -/

/-- The nine commands of a step, as written (R121, R122, R123). -/
theorem stepCommands_eq (s : State) (run : ShiftRun) (st : ProfileStep) (c : Fin 9) :
    min (stepCommands s run st)[c] 250 = min 250 (stepCommand s run st (s.time - run.entry) c) := by
  have label : ∀ p : Nat, compensated s.sc.kLoad (loadOf s) st.label p = if st.label = .torque ∨ st.label = .inertia then
      min 250 (p * (1000 + s.sc.kLoad * loadOf s / 1000) / 1000) else p := by
    intro p
    unfold compensated Phase.handOver
    simp [Config.pClutchMax]
  have act : ∀ a : Action, min (min Config.pClutchMax
      (actionCommand a (compensated s.sc.kLoad (loadOf s) st.label) run.entryP[c] (s.time - run.entry) run.applied)) 250
      = min 250 (match a with
        | ⟨.hold, _⟩ => min 250 run.entryP[c]
        | ⟨.step, q⟩ => min 250 (compensated s.sc.kLoad (loadOf s) st.label q)
        | ⟨.ramp, q⟩ => min 250 (if run.applied * 1000 ≤ s.time - run.entry then compensated s.sc.kLoad (loadOf s) st.label q
            else ((run.entryP[c] : Int) + (((compensated s.sc.kLoad (loadOf s) st.label q : Int) - run.entryP[c])
              * ((s.time - run.entry : Nat) : Int)).tdiv ((run.applied * 1000 : Nat) : Int)).toNat)
        | ⟨.fill, q⟩ => min 250 q
        | ⟨.dump, _⟩ => 0) := by
    intro a
    obtain ⟨ty, q⟩ := a
    cases ty
    case dump => rfl
    all_goals exact Nat.min_comm _ _
  unfold stepCommand
  simp only [← label]
  unfold stepCommands boundAction
  simp only [Fin.getElem_fin, Vector.getElem_ofFn]
  by_cases h1 : run.onA = some c
  · rw [if_pos h1, if_pos h1]
    exact act st.onA
  by_cases h2 : run.offA = some c
  · rw [if_neg h1, if_neg h1, if_pos h2, if_pos h2]
    exact act st.offA
  by_cases h3 : run.onB = some c
  · rw [if_neg h1, if_neg h1, if_neg h2, if_neg h2, if_pos h3, if_pos h3]
    exact act st.onB
  by_cases h4 : run.offB = some c
  · rw [if_neg h1, if_neg h1, if_neg h2, if_neg h2, if_neg h3, if_neg h3, if_pos h4, if_pos h4]
    exact act st.offB
  · rw [if_neg h1, if_neg h1, if_neg h2, if_neg h2, if_neg h3, if_neg h3, if_neg h4, if_neg h4]
    exact Nat.min_comm _ _

/-- A step takes some time where its profile gives it some (R124). -/
theorem stepTime_pos {s : State} {st : ProfileStep} (h : 0 < st.duration) : 0 < stepTime s st := by
  unfold stepTime
  dsimp only
  split
  · have h1 : st.duration ≤ st.duration * (1000 + 10 * (40 - if s.me.engine.stale then (20 : Int) else s.me.engine.oil).toNat) / 1000 := by
      rw [Nat.le_div_iff_mul_le (by decide)]
      exact Nat.mul_le_mul_left _ (Nat.le_add_right _ _)
    have h2 : st.duration ≤ st.duration * 1600 / 1000 := by omega
    exact Nat.lt_of_lt_of_le h (Nat.le_min.2 ⟨h1, h2⟩)
  · exact h

end Sys2Proof.Machine
end

section
/-! SUPPORT. A shift that begins and is still in its first step (R97 to R100, R120 to R125). -/

namespace Sys2Proof.Machine

open Sys2Proof

/-! ### The bindings and the entry pressures -/

/-- The two clutches bound as a pair have the codes of a pair (R98). -/
theorem bindPair_codes (on off : Fin 9) :
    [(bindPair (some on) (some off)).1, (bindPair (some on) (some off)).2].map (Option.map Fin.val)
      = if on.val = off.val then [none, none] else [some on.val, some off.val] := by
  unfold bindPair
  by_cases h : on = off
  · simp [h]
  · have hv : on.val ≠ off.val := fun e => h (Fin.ext e)
    simp [h, hv]

/-- The clutch code of a direction (R95). -/
theorem dirClutch_code (d : Dir) :
    (dirClutch d).map Fin.val = if d = .f then some 7 else if d = .r then some 8 else none := by
  cases d <;> rfl

/-- The model binds the roles that R98 names. -/
theorem bind_codes (gs : Vector GearEntry 12) (k : ShiftKind) (d : Dir) (g : Nat) (d' : Dir) (g' : Nat) :
    [(bindA gs k d g d' g').1, (bindA gs k d g d' g').2, (bindB gs k g g').1, (bindB gs k g g').2].map (Option.map Fin.val)
      = roleCodes gs k d g d' g' := by
  have two : ∀ a b : Option (Fin 9) × Option (Fin 9), [a.1, a.2, b.1, b.2].map (Option.map Fin.val)
      = [a.1, a.2].map (Option.map Fin.val) ++ [b.1, b.2].map (Option.map Fin.val) := fun _ _ => rfl
  rw [two]
  cases k with
  | speed => exact congrArg (· ++ _) (bindPair_codes _ _)
  | range => exact congr (congrArg _ (bindPair_codes _ _)) (bindPair_codes _ _)
  | shuttle => simp [bindA, bindB, roleCodes, dirClutch_code]
  | engage => simp [bindA, bindB, roleCodes, dirClutch_code]
  | disengage => simp [bindA, bindB, roleCodes, dirClutch_code]
  | none => rfl

/-- A clutch of a gear, by its code (R95). -/
theorem eq_clutch_iff (e : GearEntry) (c : Fin 9) :
    (c = speedClutch e ∨ c = rangeClutch e) ↔ (c.val = e.speed.val ∨ c.val = 4 + e.range.val) := by
  simp [Fin.ext_iff, speedClutch, rangeClutch]

/-- The commands from which step 0 starts, clutch by clutch (R99). -/
theorem stepZeroCommands_get (gs : Vector GearEntry 12) (k : ShiftKind) (g g' : Nat) (cmd : Vector Nat 9) (c : Fin 9) :
    let uses (h : Nat) : Prop := c.val = (gearAt gs h).speed.val ∨ c.val = 4 + (gearAt gs h).range.val
    (stepZeroCommands gs k g g' cmd)[c] =
      if uses g' ∧ (k = .engage ∨ (k = .shuttle ∧ ¬uses g)) then (gearAt gs g').pLock
      else if k = .shuttle ∧ uses g ∧ ¬uses g' then 0 else cmd[c] := by
  intro uses
  have key : ∀ h, (c = speedClutch (gearAt gs h) ∨ c = rangeClutch (gearAt gs h)) ↔ uses h := fun h => eq_clutch_iff _ _
  unfold stepZeroCommands
  cases k with
  | engage => simp [key]
  | shuttle =>
    have key' : ∀ h, (¬c = speedClutch (gearAt gs h) ∧ ¬c = rangeClutch (gearAt gs h)) ↔ ¬uses h := fun h => by
      rw [← key, not_or]
    simp [key, key']
  | none => simp
  | speed => simp
  | range => simp
  | disengage => simp

/-! ### The first step runs -/

/-- A step just entered, with some time to take and its FILLED condition open, runs on (R125). -/
theorem stepEnd_first {s : State} {run : ShiftRun} {st : ProfileStep} (he : run.entry = s.time) (ha : 0 < run.applied)
    (hs : run.sync = 0) (ho : FillOpen s (run.onA.map Fin.val) st) : stepEnd s run st = .runs := by
  have hp : ¬run.applied * Config.ms ≤ s.time - run.entry := by
    rw [he, Nat.sub_self, Nat.not_le]
    exact Nat.mul_pos ha (by decide)
  have hc : timeLike s run st = true ∨ conditionMet s run st = false := by
    unfold timeLike conditionMet syncCount
    split <;> rename_i hend
    · exact .inl rfl
    · split <;> rename_i hon
      · exact .inl rfl
      · rename_i c
        cases hr : s.roleOk (clutchRole c) with
        | false => exact .inl rfl
        | true =>
          refine .inr (decide_eq_false (Int.not_le.2 ?_))
          exact ho hend c (by rw [hon]; rfl) hr
    · refine .inr (decide_eq_false ?_)
      rw [hs]
      split <;> decide
  unfold stepEnd
  rw [decide_eq_false hp]
  rcases hc with hc | hc
  · rw [if_pos hc]; rfl
  · rw [hc]
    split <;> rfl

/-- The first update of a shift in a step that runs on (R121). -/
theorem modResult_first {s : State} {run : ShiftRun} {st : ProfileStep} {rest : List ProfileStep}
    (hr : (runSteps s run).drop run.step = st :: rest) (he : stepEnd s run st = .runs) :
    modResult s run = .running { run with sync := syncCount s run st } st (stepCommands s run st) := by
  unfold modResult
  rw [hr]
  dsimp only
  unfold modSteps
  dsimp only
  rw [he]

/-- The shift that begins in `s` in the step `st` of the profile `p` (R98, R99, R120). -/
def begunRun (s : State) (k : ShiftKind) (d' : Dir) (g' : Nat) (p : Fin 8) (st : ProfileStep) : ShiftRun :=
  let d := s.sc.pub
  let a := bindA s.sc.gears k d.dir d.gear d' g'
  let b := bindB s.sc.gears k d.gear g'
  ⟨d.dir, d.gear, d', g', some p, a.1, a.2, b.1, b.2, 0, s.time, stepTime s st,
    stepZeroCommands s.sc.gears k d.gear g' (clutchCommands s), 0⟩

/-- The record published as it begins (R120). -/
def begunRecord (s : State) (k : ShiftKind) (u : Sense) (d' : Dir) (g' : Nat) (st : ProfileStep) : Driveline :=
  { s.sc.pub with state := .stepping, kind := k, sense := u, phase := st.label, step := 0, tgtDir := d', tgtGear := g' }

/-- The start of a shift: the record, then the first modulation update (R120). -/
theorem beginShift_eq (k : State → State) {s : State} {kind : ShiftKind} {sense : Sense} {d' : Dir} {g' : Nat} {p : Fin 8}
    {st : ProfileStep} (hk : classify s.sc.gears s.sc.pub.dir s.sc.pub.gear d' g' = kind)
    (hs : senseOf kind s.sc.pub.gear g' = sense) (hm : s.sc.map[mapIndex kind sense] = some p)
    (hh : (s.sc.profiles[p]).head? = some st) :
    beginShift k d' g' s = modStepping k (begunRun s kind d' g' p st) (scPublish (begunRecord s kind sense d' g' st)
      { s with sc := { s.sc with shift := some (begunRun s kind d' g' p st), modDue := some (s.time + 5000) } }) := by
  subst hs hk
  unfold beginShift
  dsimp only [runSteps]
  rw [hm]
  dsimp only
  rw [hh]
  rfl

/-- The shift that begins in `s` after its first update, with the sync count that this update forms (R120, R125). -/
def firstRun (s : State) (k : ShiftKind) (d' : Dir) (g' : Nat) (p : Fin 8) (st : ProfileStep) : ShiftRun :=
  { begunRun s k d' g' p st with sync := syncCount s (begunRun s k d' g' p st) st }

/-- The SC and the clutches as the first update of a shift leaves them, its first step running on (R120, R121). -/
theorem beginShift_runs (k : State → State) {s : State} {kind : ShiftKind} {sense : Sense} {d' : Dir} {g' : Nat} {p : Fin 8}
    {st : ProfileStep} (hk : classify s.sc.gears s.sc.pub.dir s.sc.pub.gear d' g' = kind)
    (hs : senseOf kind s.sc.pub.gear g' = sense) (hf : FirstStepRuns s kind sense d' g' p st) :
    (beginShift k d' g' s).sc = { s.sc with
        shift := some (firstRun s kind d' g' p st), modDue := some (s.time + 5000)
        pub := { begunRecord s kind sense d' g' st with time := (beginShift k d' g' s).sc.pub.time } }
      ∧ ∀ c : Fin 9, ((beginShift k d' g' s).vo.chan[clutchChan c]).command
        = min 250 (stepCommand s (firstRun s kind d' g' p st) st 0 c) := by
  obtain ⟨hm, hh, h0, ho⟩ := hf
  obtain ⟨rest, hrest⟩ : ∃ rest, s.sc.profiles[p] = st :: rest := by
    cases hl : s.sc.profiles[p] with
    | nil => rw [hl] at hh; cases hh
    | cons a l => rw [hl] at hh; cases hh; exact ⟨l, rfl⟩
  obtain ⟨vo, tbc, n, tm, e, hvo, -, -, -⟩ := scPublish_eq (begunRecord s kind sense d' g' st)
    { s with sc := { s.sc with shift := some (begunRun s kind d' g' p st), modDue := some (s.time + 5000) } }
  rw [beginShift_eq k hk hs hm hh, e]
  clear e
  -- the state in which the first update is made
  obtain ⟨x, hx⟩ : ∃ x : State, x = { s with
      sc := { s.sc with
        shift := some (begunRun s kind d' g' p st), modDue := some (s.time + 5000)
        pub := { begunRecord s kind sense d' g' st with time := tm } }
      vo := vo, tbc := tbc, undelivered := n } := ⟨_, rfl⟩
  have ho' : FillOpen x ((begunRun s kind d' g' p st).onA.map Fin.val) st := by
    rw [← bind_codes] at ho
    rw [hx]
    exact ho
  have hmod := modResult_first (s := x) (run := begunRun s kind d' g' p st) (st := st) (rest := rest)
    (by rw [hx]; exact hrest) (stepEnd_first (by rw [hx]; rfl) (stepTime_pos h0) rfl ho')
  have hrun : ({ begunRun s kind d' g' p st with sync := syncCount x (begunRun s kind d' g' p st) st } : ShiftRun)
      = firstRun s kind d' g' p st := by rw [hx]; rfl
  rw [hrun] at hmod
  obtain ⟨y, hy⟩ : ∃ y, y = writeClutches (stepCommands x (begunRun s kind d' g' p st) st)
      { x with sc := { x.sc with shift := some (firstRun s kind d' g' p st) } } := ⟨_, rfl⟩
  have hysc : y.sc = { x.sc with shift := some (firstRun s kind d' g' p st) } := by rw [hy]; simp
  have hcmd : ∀ c : Fin 9, (y.vo.chan[clutchChan c]).command
      = min 250 (stepCommand s (firstRun s kind d' g' p st) st 0 c) := by
    intro c
    rw [hy, writeClutches_command, stepCommands_eq, hx]
    simp only [begunRun, Nat.sub_self]
    rfl
  rw [← hx]
  unfold modStepping applyMod
  rw [hmod]
  dsimp only
  rw [← hy]
  unfold publishStep
  refine ⟨?_, fun c => ?_⟩
  · rw [scPublish_pub, hysc, hx]
    rfl
  · rw [(scPublish_other _ y).1 _ (by have := c.isLt; show c.val < 12; omega)]
    exact hcmd c

/-- A shift begins in the first step of its profile, where that step is not met at its entry (R97 to R100, R120 to R125). -/
theorem beginShift_first (k : State → State) {s : State} {kind : ShiftKind} {sense : Sense} {d' : Dir} {g' : Nat} {p : Fin 8}
    {st : ProfileStep} (hk : classify s.sc.gears s.sc.pub.dir s.sc.pub.gear d' g' = kind)
    (hs : senseOf kind s.sc.pub.gear g' = sense) (hf : FirstStepRuns s kind sense d' g' p st) :
    ShiftBegins s kind sense d' g' p st (beginShift k d' g' s) := by
  obtain ⟨hsc, hcmd⟩ := beginShift_runs k hk hs hf
  have hcodes := bind_codes s.sc.gears kind s.sc.pub.dir s.sc.pub.gear d' g'
  generalize beginShift k d' g' s = t at hsc hcmd
  unfold ShiftBegins
  rw [hsc]
  refine ⟨rfl, rfl, rfl, rfl, rfl, rfl, rfl, rfl, rfl, rfl, hcodes, ?_, hcmd⟩
  have hz := stepZeroCommands_get s.sc.gears kind s.sc.pub.gear g' (clutchCommands s)
  dsimp only [firstRun, begunRun]
  congr 1
  · refine Vector.ext fun i hi => ?_
    rw [Vector.getElem_ofFn]
    refine (hz ⟨i, hi⟩).trans ?_
    simp [clutchCommands]
  · simp [syncCount, speedsAgree]

end Sys2Proof.Machine
end

section
/-! SUPPORT. A link loss at the SC: what it does in each shift state, and a start that stands through the rest of the event (R117,
R130, R135). -/

namespace Sys2Proof.Machine

open Sys2Proof

/-! ### A shift that begins stands -/

/-- The rest of an event at the other blocks leaves a shift that has begun (R120). -/
theorem shiftBegins_stands {s a t : State} {k : ShiftKind} {u : Sense} {d' : Dir} {g' : Nat} {p : Fin 8} {st : ProfileStep}
    (h : ShiftBegins s k u d' g' p st a) (hd : DriveStands a t) : ShiftBegins s k u d' g' p st t := by
  have hsc := hd.sc
  unfold ShiftBegins at *
  rw [hsc]
  simp only [hd.clutch]
  exact h

/-- The commands of a step depend on the measured load and its compensation alone (R122, R123). -/
theorem stepCommand_congr {s u : State} (hsc : u.sc.kLoad = s.sc.kLoad) (hm : u.me = s.me ∧ u.mu = s.mu ∧ u.hc = s.hc)
    (hst : u.ft[fScanStale] = s.ft[fScanStale]) (run : ShiftRun) (st : ProfileStep) (el : Nat) (c : Fin 9) :
    stepCommand u run st el c = stepCommand s run st el c := by
  obtain ⟨hme, hmu, hhc⟩ := hm
  have hl : loadOf u = loadOf s := by
    unfold loadOf State.draftOk State.isStale
    rw [hme, hmu, hhc, hst]
  unfold stepCommand
  rw [hl, hsc]

/-- The start of a shift depends on the settings, the measured values, the locked position and the clutches alone. -/
theorem shiftBegins_congr {s u t : State} {k : ShiftKind} {e : Sense} {d' : Dir} {g' : Nat} {p : Fin 8} {st : ProfileStep}
    (hsc : u.sc.gears = s.sc.gears ∧ u.sc.kLoad = s.sc.kLoad ∧ u.sc.wSync = s.sc.wSync ∧ u.sc.pub.dir = s.sc.pub.dir
      ∧ u.sc.pub.gear = s.sc.pub.gear)
    (hm : u.time = s.time ∧ u.me = s.me ∧ u.mu = s.mu ∧ u.hc = s.hc) (hst : u.ft[fScanStale] = s.ft[fScanStale])
    (hv : ∀ c : Fin 9, (u.vo.chan[clutchChan c]).command = (s.vo.chan[clutchChan c]).command)
    (h : ShiftBegins u k e d' g' p st t) : ShiftBegins s k e d' g' p st t := by
  obtain ⟨h1, h2, h3, h4, h5⟩ := hsc
  obtain ⟨htime, hme, hmu, hhc⟩ := hm
  have hc := stepCommand_congr h2 ⟨hme, hmu, hhc⟩ hst
  have hst' : stepTime u st = stepTime s st := by unfold stepTime; rw [hme]
  unfold ShiftBegins at *
  simp only [h1, h3, h4, h5, htime, hme, hv, hc, hst'] at h
  exact h

/-! ### The loss of the queue -/

/-- The parts of the SC that the loss of its queue leaves, and what it clears. -/
theorem queueLost_keeps (t : Nat) (c : ShiftCtl) : (queueLost t c).queue = []
    ∧ (queueLost t c).pub.state = (if c.pub.state = .pending then .idle else c.pub.state)
    ∧ (queueLost t c).pub.dir = c.pub.dir ∧ (queueLost t c).pub.gear = c.pub.gear
    ∧ (queueLost t c).timeoutFault = c.timeoutFault ∧ (queueLost t c).dump = c.dump
    ∧ (queueLost t c).gears = c.gears ∧ (queueLost t c).kLoad = c.kLoad ∧ (queueLost t c).wSync = c.wSync
    ∧ (queueLost t c).map = c.map ∧ (queueLost t c).profiles = c.profiles := by
  unfold queueLost
  by_cases h : c.pub.state = .pending
  · rw [if_pos h, if_pos h]; simp
  · rw [if_neg h, if_neg h]; simp

/-- The SC, the supply and the clutches as the loss of the queue leaves them (R135). -/
theorem loseQueue_sc (s : State) : (loseQueue s).sc = queueLost s.time s.sc ∧ (loseQueue s).vo.supply = s.vo.supply
    ∧ (∀ c : Fin 9, (loseQueue s).vo.chan[clutchChan c] = s.vo.chan[clutchChan c])
    ∧ (loseQueue s).time = s.time ∧ (loseQueue s).me = s.me ∧ (loseQueue s).mu = s.mu ∧ (loseQueue s).hc = s.hc
    ∧ (loseQueue s).ft = s.ft := by
  obtain ⟨vo, tbc, n, e, hc, hs, -⟩ := loseQueue_eq s
  rw [e]
  exact ⟨rfl, hs, fun c => hc _ (by have := c.isLt; show c.val < 12; omega), rfl, rfl, rfl, rfl, rfl⟩

theorem loseQueue_queue (s : State) : (loseQueue s).sc.queue = [] := by rw [(loseQueue_sc s).1, (queueLost_keeps _ _).1]

theorem loseQueue_state (s : State) :
    (loseQueue s).sc.pub.state = if s.sc.pub.state = .pending then .idle else s.sc.pub.state := by
  rw [(loseQueue_sc s).1, (queueLost_keeps _ _).2.1]

theorem loseQueue_known {s : State} (hk : KnownTimeout s) : KnownTimeout (loseQueue s) := by
  obtain ⟨-, -, -, -, ht, -⟩ := queueLost_keeps s.time s.sc
  unfold KnownTimeout
  rw [(loseQueue_sc s).1, ht]
  exact hk

/-- With the queue lost there is nothing left to empty. -/
theorem emptyQueue_loseQueue (s : State) : emptyQueue (loseQueue s) = loseQueue s := by
  have h := loseQueue_queue s
  unfold emptyQueue
  rw [← h]

/-! ### The timeout entry and ABORTING -/

/-- The end of a timeout entry that a step raised leaves the SC but for the entry kept, and the channels (R127). -/
theorem endTimeout_quiet {s : State} (hk : KnownTimeout s) :
    (endTimeout s).sc = { s.sc with timeoutFault := none } ∧ (endTimeout s).vo = s.vo := by
  unfold endTimeout ftEndOpt
  split
  · rename_i i hi
    have hq : isTrailerEntry i = false := by rcases hk i hi with rfl | rfl <;> decide
    obtain ⟨h1, -, h3, -⟩ := ftEnd_quiet i { s with sc := { s.sc with timeoutFault := none } } hq
    exact ⟨h1, h3⟩
  · exact ⟨rfl, rfl⟩

/-- ABORTING entered at time `t0`: in neutral, no shift, the dump time running, every clutch at 0 (R130). -/
def AbortsAt (t0 : Nat) (a : State) : Prop :=
  a.sc.pub = { time := t0, state := .aborting } ∧ a.sc.shift = none ∧ a.sc.modDue = none ∧ a.sc.dump = some (t0 + 100000)
    ∧ ∀ c : Fin 9, (a.vo.chan[clutchChan c]).command = 0

theorem enterAborting_aborts {s : State} (h : s.sc.pub.state ≠ .aborting) : AbortsAt s.time (enterAborting s) := by
  obtain ⟨vo, tbc, n, e, hc, -⟩ := enterAborting_eq s h
  rw [e]
  exact ⟨rfl, rfl, rfl, rfl, hc⟩

theorem AbortsAt.endTimeout {t0 : Nat} {a : State} (h : AbortsAt t0 a) (hk : KnownTimeout a) : AbortsAt t0 (endTimeout a) := by
  obtain ⟨hsc, hvo⟩ := endTimeout_quiet hk
  unfold AbortsAt
  rw [hsc, hvo]
  exact h

/-! ### NEUTRAL's act in each shift state -/

section
variable {s : State} (hs : s.lp.policy = .safe)
include hs

theorem scOnLoss_safe : scOnLoss s = (neutralAct (loseQueue s)).2 := by rw [scOnLoss_eq, hs]

/-- A shift in flight is aborted (R117, R135). -/
theorem scOnLoss_inFlight (hk : KnownTimeout s) (h : s.sc.pub.state = .stepping ∨ s.sc.pub.state = .recovering) :
    AbortsAt s.time (scOnLoss s) := by
  have hu : (loseQueue s).sc.pub.state = s.sc.pub.state := by
    rw [loseQueue_state, if_neg]
    rcases h with h | h <;> rw [h] <;> exact ShiftState.noConfusion
  have ht : (loseQueue s).time = s.time := (loseQueue_sc s).2.2.2.1
  have e : scOnLoss s = endTimeout (enterAborting (loseQueue s)) := by
    rw [scOnLoss_safe hs]
    unfold neutralAct
    rw [emptyQueue_loseQueue]
    rcases h with h | h <;> rw [hu, h]
  have ha : AbortsAt s.time (enterAborting (loseQueue s)) := by
    rw [← ht]
    refine enterAborting_aborts ?_
    rw [hu]
    rcases h with h | h <;> rw [h] <;> exact ShiftState.noConfusion
  rw [e]
  refine ha.endTimeout ?_
  unfold KnownTimeout
  rw [enterAborting_timeoutFault]
  exact loseQueue_known hk

theorem scOnLoss_aborting (h : s.sc.pub.state = .aborting) : scOnLoss s = loseQueue s := by
  have hu : (loseQueue s).sc.pub.state = .aborting := by rw [loseQueue_state, h]; rfl
  rw [scOnLoss_safe hs]
  unfold neutralAct
  rw [emptyQueue_loseQueue, hu]

/-- Where the SC rests, NEUTRAL acts as in IDLE (R117). -/
theorem scOnLoss_rests (h : s.sc.pub.state = .idle ∨ s.sc.pub.state = .pending) :
    scOnLoss s = if s.sc.pub.dir = .n then loseQueue s
      else if s.vo.supply = .normal then beginShift pendNext .n 0 (loseQueue s)
      else enterAborting (loseQueue s) := by
  have hu : (loseQueue s).sc.pub.state = .idle := by
    rw [loseQueue_state]
    rcases h with h | h <;> rw [h] <;> rfl
  have hd : (loseQueue s).sc.pub.dir = s.sc.pub.dir := by
    rw [(loseQueue_sc s).1]
    exact (queueLost_keeps _ _).2.2.1
  rw [scOnLoss_safe hs]
  unfold neutralAct
  rw [emptyQueue_loseQueue, hu]
  dsimp only
  rw [hd, (loseQueue_sc s).2.1]
  split
  · rfl
  · split <;> rfl

/-- A gear with the supply LOW is aborted (R117, R135). -/
theorem scOnLoss_low (h : s.sc.pub.state = .idle ∨ s.sc.pub.state = .pending) (hd : s.sc.pub.dir ≠ .n)
    (hl : s.vo.supply = .low) : AbortsAt s.time (scOnLoss s) := by
  have ht : (loseQueue s).time = s.time := (loseQueue_sc s).2.2.2.1
  rw [scOnLoss_rests hs h, if_neg hd, if_neg (by rw [hl]; exact Supply.noConfusion), ← ht]
  refine enterAborting_aborts ?_
  rw [loseQueue_state]
  rcases h with h | h <;> rw [h] <;> exact ShiftState.noConfusion

end

/-- After a link loss the SC's queue is empty and no head is PENDING (R135). -/
theorem scOnLoss_clears {s : State} (hk : KnownTimeout s) :
    (scOnLoss s).sc.queue = [] ∧ (scOnLoss s).sc.pub.state ≠ .pending := by
  have hl : (loseQueue s).sc.pub.state ≠ .pending := by
    rw [loseQueue_state]
    split
    · exact ShiftState.noConfusion
    · assumption
  cases hp : s.lp.policy with
  | hold =>
    have e : scOnLoss s = loseQueue s := by rw [scOnLoss_eq, hp]
    rw [e]
    exact ⟨loseQueue_queue s, hl⟩
  | safe =>
    constructor
    · have hw := (Within.refl (loseQueue s)).neutralAct.queue
      rw [loseQueue_queue] at hw
      rw [scOnLoss_safe hp]
      exact List.eq_nil_of_length_eq_zero (Nat.le_zero.1 hw)
    · have aborts : AbortsAt s.time (scOnLoss s) → (scOnLoss s).sc.pub.state ≠ .pending := fun h => by
        rw [h.1]; exact ShiftState.noConfusion
      have rests : s.sc.pub.state = .idle ∨ s.sc.pub.state = .pending → (scOnLoss s).sc.pub.state ≠ .pending := fun h => by
        rw [scOnLoss_rests hp h]
        split
        · exact hl
        · split
          · exact beginShift_state (loseQueue_queue s) _ _
          · rw [enterAborting_state]; exact ShiftState.noConfusion
      cases hst : s.sc.pub.state with
      | idle => exact rests (.inl hst)
      | pending => exact rests (.inr hst)
      | stepping => exact aborts (scOnLoss_inFlight hp hk (.inl hst))
      | recovering => exact aborts (scOnLoss_inFlight hp hk (.inr hst))
      | aborting => rw [scOnLoss_aborting hp hst]; exact hl

end Sys2Proof.Machine
end

section
/-! SUPPORT. SUPERVISION_EXPIRY, block by block: the LP and the FT, the HC, and what stands through the event (R22, R135, R151,
R173, R195). -/

namespace Sys2Proof.Machine

open Sys2Proof

/-- The LP loses the link and LINK_LOST is raised (R22). -/
def lossRaised (s : State) : State :=
  ftStart fLinkLost s.lp.policy.code { s with lp := { s.lp with link := .lost, supervision := none, lossTime := s.time } }

/-- The loss told to the SC, the FDM and the HC, before the TBC takes it. -/
def lossTold (s : State) : State := hcOnLoss (fdmOnLoss (scOnLoss (lossRaised s)))

theorem linkLoss_eq (s : State) : linkLoss s = tbcOnLoss (lossTold s) := rfl

/-- The raise, field by field (R22, R197). -/
theorem lossRaised_eq (s : State) : ∃ ft, lossRaised s = { s with
      lp := offerAll (raisedNote s fLinkLost s.lp.policy.code)
        { s.lp with link := .lost, supervision := none, lossTime := s.time }
      ft := ft }
    ∧ (ft[fLinkLost]).state = .active
    ∧ ((s.ft[fLinkLost]).state ≠ .active → (ft[fLinkLost]).detail = BitVec.ofNat 16 s.lp.policy.code)
    ∧ ∀ j : Fin 47, j ≠ fLinkLost → ft[j] = s.ft[j] := by
  have hd : ∀ u : State, (u.ft[fLinkLost]).state ≠ .active →
      ((ftStart fLinkLost s.lp.policy.code u).ft[fLinkLost]).detail = BitVec.ofNat 16 s.lp.policy.code := by
    intro u hu
    unfold ftStart
    dsimp only
    split
    · contradiction
    all_goals simp
  exact ⟨_, ftStart_quiet_eq fLinkLost s.lp.policy.code _ (by decide), ftStart_active _ _ _,
    hd { s with lp := { s.lp with link := .lost, supervision := none, lossTime := s.time } },
    fun j hj => ftStart_other hj.symm _ _⟩

theorem lossRaised_known {s : State} (hk : KnownTimeout s) : KnownTimeout (lossRaised s) := by
  obtain ⟨ft, e, -⟩ := lossRaised_eq s
  rw [e]
  exact hk

/-- What is told keeps the parts of the state that the SC, the FDM and the HC do not write. -/
theorem lossTold_keeps {F : Fin 47 → Prop} {P : State → Prop} (h : Tame F P) (hF : F fFillTimeout ∧ F fSyncTimeout)
    (hc : ∀ s, P s → P (hcOnLoss s)) {s : State} (hk : KnownTimeout s) (hs : P (lossRaised s)) : P (lossTold s) := by
  have hk' := lossRaised_known hk
  exact hc _ (h.fdmOnLoss (h.scOnLoss hF hk' hs))

/-- A fault entry is kept by every report of another. -/
theorem entry_tame (j : Fin 47) (e : FaultEntry) : Tame (· ≠ j) (fun s => s.ft[j] = e) where
  drive s h := by simpa using h
  lp _ _ h := h
  sc _ _ h := h
  fdm _ _ h := h
  undelivered _ _ h := h
  chan _ _ _ _ h := by simpa using h
  fault s i x hi h := by
    have : i.val ≠ j.val := fun y => hi (Fin.ext y)
    simpa [modFault, this] using h

/-- A hitch channel is no other block's. -/
theorem hitchChan_tame {j : Fin 14} (hj : j = chRaise ∨ j = chLower) (v : Chan) :
    Tame (fun _ => True) (fun s => s.vo.chan[j] = v) where
  drive s h := by
    show (tbcFinish (preBrakeTest s)).vo.chan[j] = v
    rw [tbcFinish_other (by rcases hj with rfl | rfl <;> decide)]
    simpa using h
  lp _ _ h := h
  sc _ _ h := h
  fdm _ _ h := h
  undelivered _ _ h := h
  chan s i cmd hi h := by
    have hne : i ≠ j := by
      rintro rfl
      rcases hj with rfl | rfl <;> exact absurd hi (by decide)
    rw [writeChan_other hne]
    exact h
  fault _ _ _ _ h := h

/-- The entries that the SC and the TBC do not report stay as they are at a link loss. -/
theorem linkLoss_entry {s : State} (hk : KnownTimeout s) {j : Fin 47} (hj : j ≠ fFillTimeout ∧ j ≠ fSyncTimeout) :
    (lossTold s).ft[j] = (lossRaised s).ft[j]
      ∧ (j ≠ fSuppLow → (settle (linkLoss s)).ft[j] = (lossRaised s).ft[j]) := by
  have h1 : (lossTold s).ft[j] = (lossRaised s).ft[j] :=
    lossTold_keeps (entry_tame j _) ⟨hj.1.symm, hj.2.symm⟩ (fun s h => by simpa using h) hk rfl
  refine ⟨h1, fun hl => ?_⟩
  obtain ⟨-, -, -, -, -, hft⟩ := settle_keeps (linkLoss s)
  rw [hft j hj.1 hj.2, linkLoss_eq]
  exact tbcOnLoss_keeps (P := fun u => u.ft[j] = (lossRaised s).ft[j]) (fun _ _ h => h) (fun _ _ h => h)
    (fun u h => by simpa using h) (fun u h => by rw [ftEnd_other hl.symm]; exact h) h1

/-- The LP after a link loss, but for its notices (R22). -/
theorem linkLoss_lp (s : State) :
    LpPosted { s.lp with link := .lost, supervision := none, lossTime := s.time } (settle (linkLoss s)).lp := by
  have h : Within { s with lp := { s.lp with link := .lost, supervision := none, lossTime := s.time } } (settle (linkLoss s)) :=
    (((Within.refl _).ftStart _ _).linkLoss_told).settle
  exact h.posted

/-- The policy in force is the same at every block told. -/
theorem lossRaised_policy (s : State) : (lossRaised s).lp.policy = s.lp.policy
    ∧ (scOnLoss (lossRaised s)).lp.policy = s.lp.policy ∧ (lossTold s).lp.policy = s.lp.policy := by
  have h0 : Within { s with lp := { s.lp with link := .lost, supervision := none, lossTime := s.time } } (lossRaised s) :=
    (Within.refl _).ftStart _ _
  refine ⟨?_, ?_, ?_⟩
  · rw [h0.posted]
  · rw [h0.scOnLoss.posted]
  · have h1 : Within _ (lossTold s) := h0.scOnLoss.fdmOnLoss.hcOnLoss
    rw [h1.posted]

/-- The driveline record and the clutches at the end of the event are those the SC left (R135). -/
theorem linkLoss_drive {s : State} (hk : KnownTimeout s) : DriveStands (scOnLoss (lossRaised s)) (settle (linkLoss s)) := by
  have hk' := lossRaised_known hk
  have hf := (DriveStands.refl (scOnLoss (lossRaised s))).fdmOnLoss
  obtain ⟨vo, -, ho, -, -, e⟩ := hcOnLoss_eq (fdmOnLoss (scOnLoss (lossRaised s)))
  have hh : DriveStands (scOnLoss (lossRaised s)) (lossTold s) := by
    unfold lossTold
    rw [e]
    refine hf.congr rfl fun c => ?_
    rw [ho]
    · intro x
      have := congrArg Fin.val x
      have := c.isLt
      simp only [clutchChan, chRaise] at *
      omega
    · intro x
      have := congrArg Fin.val x
      have := c.isLt
      simp only [clutchChan, chLower] at *
      omega
  exact hh.tbcOnLoss.settle (scOnLoss_clears hk').2

/-- The hitch at the end of the event (R153, R173). -/
theorem linkLoss_hitch {s : State} (hk : KnownTimeout s) : (settle (linkLoss s)).hc = hitchLost s.time s.hc
    ∧ (¬LiftHeld s.hc → (settle (linkLoss s)).vo.chan[chRaise] = s.vo.chan[chRaise]
        ∧ (settle (linkLoss s)).vo.chan[chLower] = s.vo.chan[chLower])
    ∧ (LiftHeld s.hc → ((settle (linkLoss s)).vo.chan[chRaise]).command = 0
        ∧ ((settle (linkLoss s)).vo.chan[chLower]).command = 0) := by
  have hk' := lossRaised_known hk
  have hw : (lossRaised s).vo = s.vo ∧ (lossRaised s).hc = s.hc ∧ (lossRaised s).time = s.time := by
    obtain ⟨ft, e, -⟩ := lossRaised_eq s
    rw [e]
    exact ⟨rfl, rfl, rfl⟩
  obtain ⟨vo, -, -, hstay, hlift, e⟩ := hcOnLoss_eq (fdmOnLoss (scOnLoss (lossRaised s)))
  have hhc : (fdmOnLoss (scOnLoss (lossRaised s))).hc = s.hc := by simp [hw.2.1]
  have htime : (fdmOnLoss (scOnLoss (lossRaised s))).time = s.time := by simp [hw.2.2]
  rw [hhc] at hstay hlift
  have hc : (lossTold s).hc = hitchLost s.time s.hc ∧ (lossTold s).vo = vo := by
    unfold lossTold
    rw [e, hhc, htime]
    exact ⟨rfl, rfl⟩
  obtain ⟨k1, -, -, k4, k5, -⟩ := settle_keeps (linkLoss s)
  -- a hitch channel at the end of the event, and before the HC is told
  have after : ∀ j : Fin 14, j = chRaise ∨ j = chLower → (tbcOnLoss (lossTold s)).vo.chan[j] = vo.chan[j] := fun j hj =>
    tbcOnLoss_keeps (P := fun u => u.vo.chan[j] = vo.chan[j]) (fun _ _ h => h) (fun _ _ h => h)
      (fun u h => by rw [tbcFinish_other (by rcases hj with rfl | rfl <;> decide)]; exact h)
      (fun u h => (hitchChan_tame hj _).ftEnd h trivial) (by rw [hc.2])
  have before : ∀ j : Fin 14, j = chRaise ∨ j = chLower →
      (fdmOnLoss (scOnLoss (lossRaised s))).vo.chan[j] = s.vo.chan[j] := fun j hj =>
    (hitchChan_tame hj _).fdmOnLoss ((hitchChan_tame hj _).scOnLoss ⟨trivial, trivial⟩ hk' (by rw [hw.1]))
  refine ⟨by rw [k1, linkLoss_eq]; simp [hc.1], fun hl => ?_, fun hl => ?_⟩
  · rw [k4, k5, linkLoss_eq, after _ (.inl rfl), after _ (.inr rfl), hstay hl]
    exact ⟨before _ (.inl rfl), before _ (.inr rfl)⟩
  · rw [k4, k5, linkLoss_eq, after _ (.inl rfl), after _ (.inr rfl)]
    exact hlift hl

/-- The TBC forms its record from the one it had (R178). -/
theorem lossTold_forms {s : State} (hk : KnownTimeout s) : BrakeForms s.tbc.cur s (lossTold s) := by
  refine lossTold_keeps (BrakeForms.tame s.tbc.cur s) ⟨trivial, trivial⟩ (fun u h => ?_) hk ?_
  · refine ⟨?_, ?_, ?_, ?_, ?_, ?_, ?_, ?_, ?_⟩ <;> simp only [hcOnLoss_same]
    · exact h.time
    · exact h.pc
    · exact h.curve
    · exact h.pPre
    · exact h.pSafe
    · exact h.cur
    · exact h.pub
    · exact h.hold
    · exact h.off
  · obtain ⟨ft, e, -⟩ := lossRaised_eq s
    rw [e]
    exact BrakeForms.start rfl rfl rfl

/-- Until the TBC takes the loss its stage timer is as it was (R191). -/
theorem lossTold_stage {s : State} (hk : KnownTimeout s) : (lossTold s).tbc.stage = s.tbc.stage := by
  refine lossTold_keeps (stage_tame s.tbc.stage) ⟨trivial, trivial⟩ (fun u h => by simpa using h) hk ?_
  obtain ⟨ft, e, -⟩ := lossRaised_eq s
  rw [e]

end Sys2Proof.Machine
end

section
/-! O13: SUPERVISION_EXPIRY under either policy. -/

namespace Sys2Proof.Machine

open Sys2Proof

/-- The raise changes the LP and the FT alone (R22). -/
theorem lossRaised_same (s : State) : (lossRaised s).sc = s.sc ∧ (lossRaised s).vo = s.vo ∧ (lossRaised s).tbc = s.tbc
    ∧ (lossRaised s).time = s.time ∧ (lossRaised s).pc = s.pc ∧ (lossRaised s).me = s.me ∧ (lossRaised s).mu = s.mu
    ∧ (lossRaised s).hc = s.hc ∧ (lossRaised s).fdm = s.fdm ∧ (lossRaised s).undelivered = s.undelivered := by
  obtain ⟨ft, e, -⟩ := lossRaised_eq s
  rw [e]
  exact ⟨rfl, rfl, rfl, rfl, rfl, rfl, rfl, rfl, rfl, rfl⟩

/-- The hitch changes its state at a link loss exactly where the loss holds it (R173). -/
theorem hitchLost_moves (t : Nat) (h : Hitch) :
    (h.causeLink = false ∧ (hitchLost t h).state ≠ h.state) ↔ LiftHeld h := by
  unfold hitchLost
  by_cases hl : LiftHeld h
  · rw [if_pos hl]
    refine iff_of_true ⟨hl.1, ?_⟩ hl
    rcases hl.2 with e | e | e | e <;> rw [e] <;> exact HitchState.noConfusion
  · rw [if_neg hl]
    exact iff_of_false (fun x => x.2 rfl) hl

/-! ### Under HOLD -/

section
variable {s : State} (hk : KnownTimeout s) (hp : s.lp.policy = .hold)
include hp

theorem lossTold_hold : lossTold s = hcOnLoss (loseQueue (lossRaised s)) := by
  have h1 : scOnLoss (lossRaised s) = loseQueue (lossRaised s) := by rw [scOnLoss_eq, (lossRaised_policy s).1, hp]
  have h2 : fdmOnLoss (scOnLoss (lossRaised s)) = scOnLoss (lossRaised s) := by
    unfold fdmOnLoss
    rw [(lossRaised_policy s).2.1, hp]
  unfold lossTold
  rw [h2, h1]

/-- The gearbox goes on as it was (R135). -/
theorem linkLoss_hold_drive (hk : KnownTimeout s) : DriveStands (loseQueue (lossRaised s)) (settle (linkLoss s)) := by
  have h := linkLoss_drive hk
  rw [scOnLoss_eq, (lossRaised_policy s).1, hp] at h
  exact h

/-- Where the brake record stands, the notices of a link loss are its own (R22, R135, R173). -/
theorem linkLoss_hold_notices (hz : s.undelivered = 0) (hq : BrakeQuiet s) :
    (settle (linkLoss s)).lp.notices = (offerAll (raisedNote s fLinkLost 0
      ++ s.sc.queue.map (fun e => noticeOf s .shiftDropped 2 .sc e.gear 4)
      ++ if LiftHeld s.hc then [noticeOf s .hitchState 0 .hc 5 s.hc.state.code] else []) s.lp).notices := by
  obtain ⟨ft, ew, -⟩ := lossRaised_eq s
  have hqw : BrakeQuiet (lossRaised s) := by rw [ew]; exact hq
  obtain ⟨vo, tbc, n, eu, -, -, hu⟩ := loseQueue_eq (lossRaised s)
  obtain ⟨ht, hn⟩ := hu hqw
  obtain ⟨vo', -, -, -, -, eh⟩ := hcOnLoss_eq (loseQueue (lossRaised s))
  have hquiet : BrakeQuiet (lossTold s) := by
    rw [lossTold_hold hp, eh, eu, ht]
    exact hqw
  have hzero : (lossTold s).undelivered = 0 := by
    rw [lossTold_hold hp, eh, eu]
    dsimp only
    rw [hn, ew]
    exact hz
  have hl : linkLoss s = tbcFinish (lossTold s) := by
    rw [linkLoss_eq, tbcOnLoss_hold ((lossRaised_policy s).2.2.trans hp)]
  rw [hl, settle_of_zero ((tbcFinish_quiet hquiet).2.trans hzero)]
  simp only [tbcFinish_same]
  rw [lossTold_hold hp, eh, eu, ew]
  dsimp only
  rw [offerAll_append, offerAll_append, hp]
  refine offerAll_notices ?_ _
  refine offerAll_notices ?_ _
  exact offerAll_notices (by exact rfl) _

end

/-! ### Under SAFE -/

/-- The record of a trailer that a link loss parks (R183, R192, R195). -/
theorem parked_checkAborted (b : BrakeRecord) : ({ parked (checkAborted b) with policyOn := false } : BrakeRecord) = { b with
    mode := .park, check := .idle, outcome := if b.check = .idle then b.outcome else .aborted
    policyOn := false, preBrake := .off, supp := .vented, chargeOpen := false } := by
  unfold parked checkAborted
  by_cases h : b.check = .idle
  · rw [if_pos h, if_pos h]
    dsimp only
    rw [h]
  · rw [if_neg h, if_neg h]

/-- The policy pressure is a term of P_cmd (R182). -/
theorem commandOf_policy {top : Nat} {tb : TrailerBrake} (hm : tb.cur.mode ≠ .park) (hp : tb.cur.policyOn = true)
    (pre : PreBrake) : min top tb.pSafe ≤ commandOf top tb pre := by
  unfold commandOf
  dsimp only
  rw [if_neg (fun x => hm x.1), if_pos hp]
  omega

section
variable {s : State} (hk : KnownTimeout s) (hp : s.lp.policy = .safe)
include hk hp

omit hk in
/-- The front drive is FORCED (R151). -/
theorem linkLoss_front : (settle (linkLoss s)).fdm.causeLink = true ∧ (settle (linkLoss s)).fdm.state = .forced := by
  obtain ⟨h1, h2⟩ := fdmOnLoss_forced (s := scOnLoss (lossRaised s)) ((lossRaised_policy s).2.1.trans hp)
  have hf : (linkLoss s).fdm = (fdmOnLoss (scOnLoss (lossRaised s))).fdm := by rw [linkLoss_eq]; simp [lossTold]
  have hc := congrArg (fun x => x.2.2.2) (settle_causes (linkLoss s))
  refine ⟨hc.trans ?_, settle_forced ?_ ?_⟩
  · show (linkLoss s).fdm.causeLink = true
    rw [hf, h2]
  · rw [hf, h1]
  · rw [hf, h2]

/-- What the TBC forms stands to the end of the event (R195). -/
theorem linkLoss_brake : BrakeStands (safeRecord s.me.pub.standstill s.tbc.cur) s (settle (linkLoss s)) := by
  have hf := (lossTold_forms hk).safeLoss.finish
  have hm : (lossTold s).me = s.me := by simp [lossTold, (lossRaised_same s).2.2.2.2.2.1]
  rw [linkLoss_eq, tbcOnLoss_safe ((lossRaised_policy s).2.2.trans hp), ← hm]
  exact ((BrakeFormed.tame _ s).settle ⟨trivial, trivial⟩ hf).stands

/-- The stage timer goes with the line check (R192). -/
theorem linkLoss_stage :
    (settle (linkLoss s)).tbc.stage = if s.tbc.cur.check = .idle then s.tbc.stage else none := by
  have hc : (lossTold s).tbc.cur.check = s.tbc.cur.check := by rw [(lossTold_forms hk).cur]
  rw [linkLoss_eq, tbcOnLoss_safe ((lossRaised_policy s).2.2.trans hp)]
  refine (stage_tame _).settle ⟨trivial, trivial⟩ ?_
  rw [(tbcFinish_timers _).1, safeLoss_stage, hc, lossTold_stage hk]

/-- The trailer that a link loss parks is at rest, its low supply entry ended (R183, R186, R187, R189). -/
theorem linkLoss_parks (hm : s.tbc.cur.mode ≠ .park) (hs : s.me.pub.standstill = true) :
    AtRest (settle (linkLoss s)).tbc
      ∧ ((s.ft[fSuppLow]).state = .active → ((settle (linkLoss s)).ft[fSuppLow]).state = .latched) := by
  have ha := (lossTold_forms hk).checkAbort
  obtain ⟨kc, km, -⟩ := checkAborted_keeps s.tbc.cur
  have hc : (checkAbort (lossTold s)).tbc.cur.check = .idle := by rw [ha.cur]; exact kc
  have hmode : (checkAbort (lossTold s)).tbc.cur.mode ≠ .park := by rw [ha.cur]; exact fun x => hm (km.symm.trans x)
  have hstill : (lossTold s).me.pub.standstill = true := by
    have : (lossTold s).me = s.me := by simp [lossTold, (lossRaised_same s).2.2.2.2.2.1]
    rw [this, hs]
  have e : linkLoss s = tbcFinish (policyPark (checkAbort (lossTold s))) := by
    rw [linkLoss_eq, tbcOnLoss_safe ((lossRaised_policy s).2.2.trans hp)]
    unfold safeLoss
    rw [if_neg hmode, if_pos hstill]
  rw [e]
  refine ⟨atRest_tame.settle ⟨trivial, trivial⟩ (policyPark_rests hmode hc).finish, fun hl => ?_⟩
  obtain ⟨-, -, -, -, -, hft⟩ := settle_keeps (tbcFinish (policyPark (checkAbort (lossTold s))))
  have hlow : ((checkAbort (lossTold s)).ft[fSuppLow]).state = .active := by
    have h1 := (linkLoss_entry hk (j := fSuppLow) (by decide)).1
    obtain ⟨ft, ew, -, -, ho⟩ := lossRaised_eq s
    rw [checkAbort_eq]
    dsimp only
    rw [h1, ew]
    dsimp only
    rw [ho _ (by decide)]
    exact hl
  rw [hft _ (by decide) (by decide)]
  simp only [tbcFinish_same]
  exact policyPark_low hmode hc hlow

/-- The release of a gear begins as a shift to neutral from the state in which the link is lost (R117, R120, R135). -/
theorem linkLoss_begins (hr : s.sc.pub.state = .idle ∨ s.sc.pub.state = .pending) (hd : s.sc.pub.dir ≠ .n)
    (hv : s.vo.supply = .normal) {p : Fin 8} {st : ProfileStep} (hf : FirstStepRuns s .disengage .none .n 0 p st) :
    ShiftBegins s .disengage .none .n 0 p st (settle (linkLoss s)) := by
  obtain ⟨wsc, wvo, -, wtime, -, wme, wmu, whc, -, -⟩ := lossRaised_same s
  obtain ⟨usc, -, uch, utime, ume, umu, uhc, uft⟩ := loseQueue_sc (lossRaised s)
  obtain ⟨-, -, kd, kg, -, -, kgs, kk, kw, km, kp⟩ := queueLost_keeps (lossRaised s).time (lossRaised s).sc
  obtain ⟨hmap, hhead, h0, -⟩ := hf
  have hst : (loseQueue (lossRaised s)).ft[fScanStale] = s.ft[fScanStale] := by
    obtain ⟨ft, ew, -, -, ho⟩ := lossRaised_eq s
    rw [uft, ew]
    exact ho _ (by decide)
  have hdir : (loseQueue (lossRaised s)).sc.pub.dir ≠ .n := by rw [usc, kd, wsc]; exact hd
  -- the step is still the first of its profile where the queue is lost
  have hfirst : FirstStepRuns (loseQueue (lossRaised s)) .disengage .none .n 0 p st := by
    refine ⟨?_, ?_, h0, fun _ c hc => absurd hc (by simp [roleCodes])⟩
    · rw [usc, km, wsc]; exact hmap
    · rw [usc, kp, wsc]; exact hhead
  have hb := beginShift_first pendNext (s := loseQueue (lossRaised s)) (kind := .disengage) (sense := .none) (d' := .n)
    (g' := 0) (by unfold classify; rw [if_neg hdir, if_pos rfl]) rfl hfirst
  have hsc : scOnLoss (lossRaised s) = beginShift pendNext .n 0 (loseQueue (lossRaised s)) := by
    rw [scOnLoss_rests ((lossRaised_policy s).1.trans hp) (by rw [wsc]; exact hr), if_neg (by rw [wsc]; exact hd),
      if_pos (by rw [wvo]; exact hv)]
  have hstands := linkLoss_drive hk
  rw [hsc] at hstands
  refine shiftBegins_congr (u := loseQueue (lossRaised s)) ?_ ?_ hst (fun c => ?_) (shiftBegins_stands hb hstands)
  · rw [usc, kd, kg, kgs, kk, kw, wsc]
    exact ⟨rfl, rfl, rfl, rfl, rfl⟩
  · exact ⟨utime.trans wtime, ume.trans wme, umu.trans wmu, uhc.trans whc⟩
  · rw [uch, wvo]

end

/-! ### The parts of the statement -/

/-- SUPERVISION_EXPIRY that is due in RUN (R22). -/
theorem exec_expiry {s : State} (hr : s.inRun = true) (hd : s.due s.lp.supervision = true) :
    exec .supervisionExpiry s = .next (settle (linkLoss s)) := by
  show event _ _ s = _
  unfold event
  rw [if_pos (by rw [hr, hd]; rfl)]

/-- The hitch of the statement, from the record the HC forms (R153, R173). -/
theorem linkLoss_hitch_eq {s : State} (hk : KnownTimeout s) :
    let h := s.hc
    let t := settle (linkLoss s)
    (¬LiftHeld h → t.hc = { h with causeLink := true }
        ∧ t.vo.chan[chRaise] = s.vo.chan[chRaise] ∧ t.vo.chan[chLower] = s.vo.chan[chLower])
      ∧ (LiftHeld h → t.hc = { h with
            causeLink := true, prev := h.state, state := .held, changeTime := s.time
            ret := if h.state = .shock then .control else h.state, raiseCmd := 0, lowerCmd := 0
            shockTimer := if h.state = .shock then none else h.shockTimer
            stall := if h.state = .control then none else h.stall }
          ∧ (t.vo.chan[chRaise]).command = 0 ∧ (t.vo.chan[chLower]).command = 0) := by
  obtain ⟨hhc, hstay, hlift⟩ := linkLoss_hitch hk
  refine ⟨fun h => ⟨?_, hstay h⟩, fun h => ⟨?_, hlift h⟩⟩
  · rw [hhc, hitchLost, if_neg h]
  · rw [hhc, hitchLost, if_pos h]

/-- The LP and the FT of a link loss, and the measured blocks (R22, R197). -/
theorem linkLoss_link {s : State} (hk : KnownTimeout s) :
    let t := settle (linkLoss s)
    t.lp.link = .lost ∧ t.lp.supervision = none ∧ t.lp.lossTime = s.time ∧ t.lp.policy = s.lp.policy
      ∧ (t.ft[fLinkLost]).state = .active
      ∧ ((s.ft[fLinkLost]).state ≠ .active → (t.ft[fLinkLost]).detail = if s.lp.policy = .hold then 0 else 1)
      ∧ KeepsMeasures s t := by
  intro t
  have hlp := linkLoss_lp s
  have hft : t.ft[fLinkLost] = (lossRaised s).ft[fLinkLost] := (linkLoss_entry hk (by decide)).2 (by decide)
  obtain ⟨ft, e, ha, hdet, -⟩ := lossRaised_eq s
  have hft' : t.ft[fLinkLost] = ft[fLinkLost] := by rw [hft, e]
  refine ⟨by rw [hlp], by rw [hlp], by rw [hlp], by rw [hlp], by rw [hft']; exact ha, fun h => ?_, ?_⟩
  · rw [hft', hdet h]
    cases s.lp.policy <;> rfl
  · simp [t, KeepsMeasures]

/-- A link loss under HOLD (R117, R135, R151, R173, R195). -/
theorem linkLoss_hold {s : State} (hz : s.undelivered = 0) (hk : KnownTimeout s) (hp : s.lp.policy = .hold) :
    let d := s.sc.pub
    let t := settle (linkLoss s)
    t.fdm.causeLink = s.fdm.causeLink
      ∧ t.sc.pub.state = (if d.state = .pending then .idle else d.state) ∧ t.sc.pub.dir = d.dir
      ∧ t.sc.pub.gear = d.gear ∧ (d.state ≠ .pending → t.sc.shift = s.sc.shift ∧ t.sc.modDue = s.sc.modDue)
      ∧ (∀ c : Fin 9, (t.vo.chan[clutchChan c]).command = (s.vo.chan[clutchChan c]).command)
      ∧ (BrakeQuiet s → t.lp.notices = (offerAll (raisedNote s fLinkLost 0
          ++ s.sc.queue.map (fun e => noticeOf s .shiftDropped 2 .sc e.gear 4)
          ++ if s.hc.causeLink = false ∧ t.hc.state ≠ s.hc.state then
              [noticeOf s .hitchState 0 .hc 5 s.hc.state.code] else []) s.lp).notices)
      ∧ BrakeStands s.tbc.cur s t ∧ t.tbc.stage = s.tbc.stage := by
  intro d t
  obtain ⟨wsc, wvo, -, wtime, -, -, -, -, wfdm, -⟩ := lossRaised_same s
  obtain ⟨usc, -, uch, -⟩ := loseQueue_sc (lossRaised s)
  have hdrive := linkLoss_hold_drive hp hk
  obtain ⟨-, qs, qd, qg, -⟩ := queueLost_keeps s.time s.sc
  have hsc := hdrive.sc
  rw [usc, wsc, wtime] at hsc
  have hl : linkLoss s = tbcFinish (lossTold s) := by rw [linkLoss_eq, tbcOnLoss_hold ((lossRaised_policy s).2.2.trans hp)]
  have hfdm : (linkLoss s).fdm = s.fdm := by
    rw [hl, lossTold_hold hp, loseQueue]
    split <;> simp [wfdm]
  refine ⟨?_, ?_, ?_, ?_, fun h => ?_, fun c => ?_, fun hq => ?_, ?_, ?_⟩
  · have := congrArg (fun x => x.2.2.2) (settle_causes (linkLoss s))
    rw [hfdm] at this
    exact this
  · rw [hsc]; exact qs
  · rw [hsc]; exact qd
  · rw [hsc]; exact qg
  · rw [hsc, queueLost, if_neg h]; exact ⟨rfl, rfl⟩
  · rw [hdrive.clutch, uch, wvo]
  · have hc : (s.hc.causeLink = false ∧ t.hc.state ≠ s.hc.state) ↔ LiftHeld s.hc := by
      rw [(linkLoss_hitch hk).1]
      exact hitchLost_moves s.time s.hc
    simp only [hc]
    exact linkLoss_hold_notices hp hz hq
  · show BrakeStands s.tbc.cur s (settle (linkLoss s))
    rw [hl]
    exact ((BrakeFormed.tame _ s).settle ⟨trivial, trivial⟩ (lossTold_forms hk).finish).stands
  · show (settle (linkLoss s)).tbc.stage = _
    rw [hl]
    refine (stage_tame _).settle ⟨trivial, trivial⟩ ?_
    rw [(tbcFinish_timers _).1, lossTold_stage hk]

/-- The gearbox at a link loss under SAFE, but for a release with the supply NORMAL (R117, R130, R135). -/
theorem linkLoss_safe_drive {s : State} (hk : KnownTimeout s) (hp : s.lp.policy = .safe) :
    let d := s.sc.pub
    let t := settle (linkLoss s)
    let rests := d.state = .idle ∨ d.state = .pending
    (d.state = .stepping ∨ d.state = .recovering ∨ (rests ∧ d.dir ≠ .n ∧ s.vo.supply = .low) →
        t.sc.pub.state = .aborting ∧ t.sc.pub.dir = .n ∧ t.sc.pub.gear = 0 ∧ t.sc.pub.above = false
        ∧ t.sc.shift = none ∧ t.sc.modDue = none ∧ t.sc.dump = some (s.time + 100000)
        ∧ ∀ c : Fin 9, (t.vo.chan[clutchChan c]).command = 0)
      ∧ (rests → d.dir = .n → t.sc.pub.state = .idle ∧ t.sc.pub.dir = .n)
      ∧ (d.state = .aborting → t.sc.pub.state = .aborting ∧ t.sc.dump = s.sc.dump) := by
  intro d t rests
  obtain ⟨wsc, wvo, -, wtime, -⟩ := lossRaised_same s
  obtain ⟨usc, -⟩ := loseQueue_sc (lossRaised s)
  have hp' := (lossRaised_policy s).1.trans hp
  have hdrive := linkLoss_drive hk
  have hsc := hdrive.sc
  refine ⟨fun h => ?_, fun h hn => ?_, fun h => ?_⟩
  · have ha : AbortsAt s.time (scOnLoss (lossRaised s)) := by
      rw [← wtime]
      rcases h with h | h | ⟨h, hn, hl⟩
      · exact scOnLoss_inFlight hp' (lossRaised_known hk) (.inl (by rw [wsc]; exact h))
      · exact scOnLoss_inFlight hp' (lossRaised_known hk) (.inr (by rw [wsc]; exact h))
      · exact scOnLoss_low hp' (by rw [wsc]; exact h) (by rw [wsc]; exact hn) (by rw [wvo]; exact hl)
    obtain ⟨hpub, hshift, hmod, hdump, hcl⟩ := ha
    have habove := hdrive.above (by rw [hpub]; exact Dir.noConfusion) (by rw [hpub])
    refine ⟨?_, ?_, ?_, habove, ?_, ?_, ?_, fun c => (hdrive.clutch c).trans (hcl c)⟩
    · rw [hsc, hpub]
    · rw [hsc, hpub]
    · rw [hsc, hpub]
    · rw [hsc]; exact hshift
    · rw [hsc]; exact hmod
    · rw [hsc]; exact hdump
  · rw [scOnLoss_rests hp' (by rw [wsc]; exact h), if_pos (by rw [wsc]; exact hn)] at hsc
    obtain ⟨-, qs, qd, -⟩ := queueLost_keeps s.time s.sc
    rw [usc, wsc, wtime] at hsc
    rw [hsc]
    refine ⟨qs.trans ?_, qd.trans hn⟩
    rcases h with h | h <;> rw [h] <;> rfl
  · rw [scOnLoss_aborting hp' (by rw [wsc]; exact h)] at hsc
    obtain ⟨-, qs, -, -, -, qdump, -⟩ := queueLost_keeps s.time s.sc
    rw [usc, wsc, wtime] at hsc
    rw [hsc]
    refine ⟨qs.trans ?_, qdump⟩
    rw [h]
    rfl

/-- The trailer at a link loss under SAFE (R183, R192, R195). -/
theorem linkLoss_safe_brake {s : State} (hk : KnownTimeout s) (hp : s.lp.policy = .safe) :
    let b := s.tbc.cur
    let t := settle (linkLoss s)
    (b.mode = .park → BrakeStands (checkAborted b) s t)
      ∧ (b.mode ≠ .park → s.me.pub.standstill = false → BrakeStands { checkAborted b with policyOn := true } s t
          ∧ min s.pc.limits.pTrlMax s.tbc.pSafe ≤ t.tbc.pub.pCmd)
      ∧ (b.mode ≠ .park → s.me.pub.standstill = true →
          BrakeStands { b with
            mode := .park, check := .idle, outcome := if b.check = .idle then b.outcome else .aborted
            policyOn := false, preBrake := .off, supp := .vented, chargeOpen := false } s t
          ∧ t.tbc.runOut = none ∧ t.tbc.charge = none ∧ t.tbc.lowHold = none
          ∧ ((s.ft[fSuppLow]).state = .active → (t.ft[fSuppLow]).state = .latched)) := by
  intro b t
  have hb := linkLoss_brake hk hp
  unfold safeRecord at hb
  refine ⟨fun h => ?_, fun h hs => ?_, fun h hs => ?_⟩
  · rw [if_pos h] at hb
    exact hb
  · rw [if_neg h, hs, if_neg Bool.false_ne_true] at hb
    refine ⟨hb, ?_⟩
    have hcmd : t.tbc.pub.pCmd = commandOf s.pc.limits.pTrlMax
        { s.tbc with cur := { checkAborted b with policyOn := true } } t.tbc.pub.preBrake := by
      conv_lhs => rw [hb.1]
    rw [hcmd]
    have hm : (checkAborted b).mode ≠ .park := by rw [(checkAborted_keeps b).2.1]; exact h
    exact commandOf_policy (tb := { s.tbc with cur := { checkAborted b with policyOn := true } }) hm rfl _
  · rw [if_neg h, hs, if_pos rfl, parked_checkAborted] at hb
    obtain ⟨⟨-, -, hr, hc, hl⟩, hlow⟩ := linkLoss_parks hk hp h hs
    exact ⟨hb, hr, hc, hl, hlow⟩

end Sys2Proof.Machine

open Sys2Proof Sys2Proof.Machine

/-- Settles O13: the state before the delivery is what each owner makes of the loss, from the LP to the TBC, and the delivery of
the brake record then starts nothing, since no head is left. -/
theorem supervisionExpiryLosesTheLink : Obligations.SupervisionExpiryLosesTheLink := by
  unfold Obligations.SupervisionExpiryLosesTheLink
  intro s hz hk hr hd
  have hexec := exec_expiry hr hd
  refine ⟨⟨_, hexec, ?_⟩, fun hp hrest hdir hsup p st hf => ⟨_, hexec, linkLoss_begins hk hp hrest hdir hsup hf⟩⟩
  obtain ⟨h1, h2, h3, h4, h5, h6, h7⟩ := linkLoss_link hk
  have hdrive := linkLoss_drive hk
  obtain ⟨hqueue, hstate⟩ := scOnLoss_clears (lossRaised_known hk)
  have hsc := hdrive.sc
  refine ⟨h1, h2, h3, h4, h5, h6, ?_, ?_, linkLoss_hitch_eq hk, h7, linkLoss_hold hz hk, fun hp => ?_⟩
  · rw [hsc]; exact hqueue
  · rw [hsc]; exact hstate
  · obtain ⟨hf1, hf2⟩ := linkLoss_front hp
    obtain ⟨hd1, hd2, hd3⟩ := linkLoss_safe_drive hk hp
    obtain ⟨hb1, hb2, hb3⟩ := linkLoss_safe_brake hk hp
    exact ⟨hf1, hf2, hd1, hd2, hd3, linkLoss_stage hk hp, hb1, hb2, hb3⟩
end
section
/-! SUPPORT. Configuration requests whose owner reads nothing of the LP: refused by their range checks or applied whole (R27, R28). -/

namespace Sys2Proof.Machine

open Sys2Proof

theorem InConfig.ready {s : State} (h : InConfig s) : Ready s := ⟨h.1, .inl h.2⟩

theorem configOnly_of_config {s : State} (h : s.inRun = false) (ok : Bool) (body : List Byte) (after : State) :
    configOnly s ok body after = if ok = true then ⟨.ok, body, after⟩ else refuse .refusedRange s := by
  unfold configOnly
  rw [if_neg (by rw [h]; decide)]

/-- A row whose owner writes nothing in the LP answers what its owner does (R7). -/
theorem answers_kept {c : Instr} {k : Byte} {f : Request} (hr : requestOfRow c = some (k, f)) {size : Nat}
    {handler : Request → State → Answer} (hc : catalogue k = some (size, handler)) {s u : State} (h : Ready s)
    (hl : f.len.toNat = size) (hu : u.undelivered = 0) (hlp : u.lp = s.lp) {st : Status} {body : List Byte}
    (hh : ∀ lp, handler f { s with lp := lp } = ⟨st, body, { u with lp := lp }⟩) : Answers c s k f st body u :=
  answers_of_row hr hc (takeRequest_kept h hu hlp hl fun lp _ => hh lp)

section
variable {c : Instr} {k : Byte} {f : Request} {size : Nat} {handler : Request → State → Answer} {ok : Bool} {body : List Byte}
  {after : State → State} {s : State}

/-- A configuration request out of its ranges is refused in CONFIG (R28). -/
theorem answers_refusedRange (hr : requestOfRow c = some (k, f)) (hc : catalogue k = some (size, handler)) (h : InConfig s)
    (hl : f.len.toNat = size) (hh : ∀ u, handler f u = configOnly u ok body (after u)) (hok : ok = false) :
    Answers c s k f .refusedRange [] s := by
  refine answers_kept hr hc h.ready hl h.1 rfl fun lp => ?_
  rw [hh, configOnly_of_config (s := { s with lp := lp }) h.2, hok]
  rfl

/-- A configuration request within its ranges is applied in CONFIG (R28). -/
theorem answers_applied (hr : requestOfRow c = some (k, f)) (hc : catalogue k = some (size, handler)) (h : InConfig s)
    (hl : f.len.toNat = size) (hh : ∀ u, handler f u = configOnly u ok body (after u)) (hok : ok = true) {u : State}
    (hu : u.undelivered = 0) (hlp : u.lp = s.lp) (ha : ∀ lp, after { s with lp := lp } = { u with lp := lp }) :
    Answers c s k f .ok body u := by
  refine answers_kept hr hc h.ready hl hu hlp fun lp => ?_
  rw [hh, configOnly_of_config (s := { s with lp := lp }) h.2, if_pos hok, ha]

end

end Sys2Proof.Machine
end

section
/-! O17: the limit set and its lock. -/

namespace Sys2Proof.Machine

open Sys2Proof

theorem LimitSet.inRange_iff (l : LimitSet) : l.inRange = true ↔
    (1 ≤ l.gMaxRoad ∧ l.gMaxRoad ≤ 12) ∧ (1 ≤ l.gMaxUnverified ∧ l.gMaxUnverified ≤ 12)
      ∧ (1 ≤ l.gMaxField ∧ l.gMaxField ≤ 12) ∧ (1 ≤ l.rMax ∧ l.rMax ≤ 12) ∧ l.pTrlMax ≤ 1500
      ∧ l.pHitchUpperHard ≤ 1000 ∧ l.vShuttleMax ≤ 20000 ∧ (1000 ≤ l.nEngineMax ∧ l.nEngineMax ≤ 4000) := by
  simp [LimitSet.inRange, Machine.inRange, and_assoc]

theorem LimitSet.consistent_iff (l : LimitSet) :
    l.consistent = true ↔ l.gMaxUnverified ≤ l.gMaxRoad ∧ l.gMaxField ≤ l.gMaxRoad := decide_eq_true_iff

/-- CFG_LIMITS in CONFIG: the lock first, then the ranges (R30). -/
theorem reqCfgLimits_of_config {s : State} (h : s.inRun = false) (f : Request) :
    reqCfgLimits f s = if s.pc.lock = true then refuse .refusedLocked s
      else if (limitsOf f).inRange = true then ⟨.ok, [], { s with pc := { s.pc with limits := limitsOf f } }⟩
      else refuse .refusedRange s := by
  unfold reqCfgLimits
  rw [if_neg (by rw [h]; decide)]

end Sys2Proof.Machine

open Sys2Proof Sys2Proof.Machine

/-- Settles O17: each answer of the two requests on the state that their frame leaves. -/
theorem limitsAreReplacedWholeAndLocked : Obligations.LimitsAreReplacedWholeAndLocked := by
  unfold Obligations.LimitsAreReplacedWholeAndLocked
  refine ⟨fun f s h hl => ?_, fun f s h hl => ?_⟩
  · intro l inRanges
    have row : ∀ {u : State} {st : Status}, u.undelivered = 0 → u.lp = s.lp →
        (∀ lp, reqCfgLimits f { s with lp := lp } = ⟨st, [], { u with lp := lp }⟩) → Answers (.cfgLimits f) s 10 f st [] u :=
      fun hu hlp hh => answers_kept rfl rfl h.ready (by rw [hl]; rfl) hu hlp hh
    have hreq := fun lp => reqCfgLimits_of_config (s := { s with lp := lp }) h.2 f
    have hrange : (limitsOf f).inRange = true ↔ inRanges := LimitSet.inRange_iff l
    refine ⟨fun hk => row h.1 rfl fun lp => ?_, fun hk hx => row h.1 rfl fun lp => ?_, fun hk hx => row h.1 rfl fun lp => ?_⟩
    · rw [hreq, if_pos hk]; rfl
    · rw [hreq, if_neg (by rw [hk]; decide), if_neg (hrange.not.2 hx)]; rfl
    · rw [hreq, if_neg (by rw [hk]; decide), if_pos (hrange.2 hx)]; rfl
  · intro l consistent
    have row : ∀ {u : State} {st : Status} {body : List Byte}, u.undelivered = 0 → u.lp = s.lp →
        (∀ lp, reqLockLimits f { s with lp := lp } = ⟨st, body, { u with lp := lp }⟩) → Answers (.lockLimits f) s 11 f st body u :=
      fun hu hlp hh => answers_kept rfl rfl h (by rw [hl]; rfl) hu hlp hh
    have hcons : l.consistent = true ↔ consistent := l.consistent_iff
    exact ⟨fun hx => row h.1 rfl fun lp => if_pos (hcons.2 hx), fun hx => row h.1 rfl fun lp => if_neg (hcons.not.2 hx)⟩
end

section
/-! O18: the settings of the MU, and the roles that its step table no longer carries. -/

namespace Sys2Proof.Machine

open Sys2Proof

/-! ### The roles that the step table no longer carries (R49, R59) -/

/-- A role's turn of `dropUnassigned`. -/
def dropRole (s : State) (r : Fin 16) : State :=
  if roleAssigned s.mu.steps r.val then s
  else ftEnd (fSensorRange r) { s with mu := { s.mu with mem := s.mu.mem.set r { s.mu.mem[r] with invalid := 0 } } }

theorem dropUnassigned_eq (s : State) : dropUnassigned s = (List.finRange 16).foldl dropRole s := rfl

/-- What the MU and the FT hold for a role: its memory and its SENSOR_RANGE entry. -/
def roleHeld (s : State) (r : Fin 16) : RoleMem × FaultEntry := (s.mu.mem[r], s.ft[fSensorRange r])

/-- A role's memory without its count, and its entry with its condition ended at time `t`. -/
def droppedAt (t : Nat) (x : RoleMem × FaultEntry) : RoleMem × FaultEntry :=
  ({ x.1 with invalid := 0 }, if x.2.state = .active then { x.2 with state := .latched, last := t } else x.2)

theorem droppedAt_twice (t : Nat) (x : RoleMem × FaultEntry) : droppedAt t (droppedAt t x) = droppedAt t x := by
  by_cases h : x.2.state = .active <;> simp [droppedAt, h]

theorem fSensorRange_ne {a r : Fin 16} (h : a ≠ r) : fSensorRange a ≠ fSensorRange r := fun e =>
  h (Fin.ext (by have := congrArg Fin.val e; simp only [fSensorRange] at this; omega))

/-- `t` is `s` but for the LP, the role memories and the FT. -/
def WritesRoles (s t : State) : Prop := ∃ lp mem ft, t = { s with lp := lp, mu := { s.mu with mem := mem }, ft := ft }

theorem WritesRoles.trans {s t u : State} (h : WritesRoles s t) (h' : WritesRoles t u) : WritesRoles s u := by
  obtain ⟨_, _, _, rfl⟩ := h
  obtain ⟨lp, mem, ft, rfl⟩ := h'
  exact ⟨lp, mem, ft, rfl⟩

theorem dropRole_writes (s : State) (a : Fin 16) : WritesRoles s (dropRole s a) := by
  unfold dropRole
  split
  · exact ⟨s.lp, s.mu.mem, s.ft, rfl⟩
  · rw [ftEnd_quiet_eq _ _ (quiet_sensorRange a)]
    exact ⟨_, _, _, rfl⟩

theorem dropRole_held (s : State) (a r : Fin 16) : roleHeld (dropRole s a) r =
    if a = r ∧ roleAssigned s.mu.steps r.val = false then droppedAt s.time (roleHeld s r) else roleHeld s r := by
  unfold dropRole
  by_cases h : a = r
  · subst h
    cases hr : roleAssigned s.mu.steps a.val with
    | true => simp
    | false =>
      rw [if_neg Bool.false_ne_true, if_pos ⟨rfl, rfl⟩, ftEnd_quiet_eq _ _ (quiet_sensorRange a)]
      refine Prod.ext (by simp [roleHeld, droppedAt]) ?_
      by_cases ha : (s.ft[fSensorRange a]).state = .active
      · refine Eq.trans ?_ (if_pos ha).symm
        simp only [roleHeld, if_pos ha]
        simp
      · refine Eq.trans ?_ (if_neg ha).symm
        simp only [roleHeld, if_neg ha]
  · have hv : a.val ≠ r.val := fun e => h (Fin.ext e)
    rw [if_neg (fun x => h x.1 : ¬(a = r ∧ roleAssigned s.mu.steps r.val = false))]
    split
    · rfl
    · exact Prod.ext (by simp [roleHeld, hv]) (ftEnd_other (fSensorRange_ne h) _)

/-- A turn leaves every entry that is no SENSOR_RANGE. -/
theorem dropRole_other (s : State) (a : Fin 16) {i : Fin 47} (hi : i.val < 2 ∨ 17 < i.val) : (dropRole s a).ft[i] = s.ft[i] := by
  have hne : fSensorRange a ≠ i := fun e => by
    subst e
    have := a.isLt
    simp only [fSensorRange] at hi
    omega
  unfold dropRole
  split
  · rfl
  · exact ftEnd_other hne _

/-- The turns of the roles `l` leave of a role what its own turn leaves. -/
theorem foldl_dropRole (l : List (Fin 16)) (s : State) :
    let t := l.foldl dropRole s
    WritesRoles s t
      ∧ (∀ r, roleHeld t r =
          if r ∈ l ∧ roleAssigned s.mu.steps r.val = false then droppedAt s.time (roleHeld s r) else roleHeld s r)
      ∧ ∀ i : Fin 47, i.val < 2 ∨ 17 < i.val → t.ft[i] = s.ft[i] := by
  induction l generalizing s with
  | nil => exact ⟨⟨s.lp, s.mu.mem, s.ft, rfl⟩, fun r => by simp, fun _ _ => rfl⟩
  | cons a l ih =>
    obtain ⟨h1, h2, h3⟩ := ih (dropRole s a)
    have hs := dropRole_writes s a
    have hkeeps : (dropRole s a).mu.steps = s.mu.steps ∧ (dropRole s a).time = s.time := by
      obtain ⟨_, _, _, e⟩ := hs
      rw [e]
      exact ⟨rfl, rfl⟩
    refine ⟨hs.trans h1, fun r => ?_, fun i hi => (h3 i hi).trans (dropRole_other s a hi)⟩
    rw [List.foldl_cons, h2, hkeeps.1, hkeeps.2, dropRole_held]
    cases hr : roleAssigned s.mu.steps r.val with
    | true => simp
    | false =>
      by_cases ha : a = r
      · subst ha
        simp [droppedAt_twice]
      · simp [ha, Ne.symm ha]

/-- The roles that the step table does not carry lose their count and their condition ends; everything else stays (R49, R59). -/
theorem dropUnassigned_does (s : State) :
    let t := dropUnassigned s
    WritesRoles s t
      ∧ (∀ r, roleHeld t r = if roleAssigned s.mu.steps r.val = false then droppedAt s.time (roleHeld s r) else roleHeld s r)
      ∧ ∀ i : Fin 47, i.val < 2 ∨ 17 < i.val → t.ft[i] = s.ft[i] := by
  obtain ⟨h1, h2, h3⟩ := foldl_dropRole (List.finRange 16) s
  rw [dropUnassigned_eq]
  exact ⟨h1, fun r => by rw [h2]; simp, h3⟩

/-- CFG_SCAN_STEP applied: the three settings, and what becomes of each role (R49, R59). -/
theorem setScanStep_does (f : Request) (mode : ScanMode) (s : State) :
    let steps := s.mu.steps.setIfInBounds (f.u8 0) (scanStepOf f)
    let t := setScanStep f mode s
    WritesRoles { s with mu := { s.mu with steps := steps, muxDelay := f.u8 4, scanMode := mode } } t
      ∧ (∀ r, roleHeld t r = if roleAssigned steps r.val = false then droppedAt s.time (roleHeld s r) else roleHeld s r)
      ∧ ∀ i : Fin 47, i.val < 2 ∨ 17 < i.val → t.ft[i] = s.ft[i] :=
  dropUnassigned_does _

/-! ### The ranges of the four requests -/

theorem decScanMode_eq {n : Nat} (h : n ≤ 2) :
    decScanMode n = some (if n = 0 then .continuous else if n = 1 then .single else .track) := by
  interval_cases n <;> rfl

theorem decScanMode_isSome (n : Nat) : (decScanMode n).isSome = decide (n ≤ 2) := by
  by_cases h : n ≤ 2
  · rw [decScanMode_eq h, decide_eq_true h]; rfl
  · obtain ⟨m, rfl⟩ := Nat.exists_eq_add_of_le (Nat.lt_of_not_le h)
    rw [decide_eq_false h, Nat.add_comm]
    rfl

/-- The range checks of CFG_SCAN_STEP (R49). -/
def scanStepInRange (f : Request) : Bool :=
  inRange 0 15 (f.u8 0) && inRange 0 1 (f.u8 1) && inRange 0 15 (f.u8 2) && inRange 0 16 (f.u8 3)
    && inRange 0 7 (f.u8 4) && (decScanMode (f.u8 5)).isSome

theorem scanStepInRange_iff (f : Request) : scanStepInRange f = true ↔
    f.u8 0 ≤ 15 ∧ f.u8 1 ≤ 1 ∧ f.u8 2 ≤ 15 ∧ f.u8 3 ≤ 16 ∧ f.u8 4 ≤ 7 ∧ f.u8 5 ≤ 2 := by
  simp [scanStepInRange, inRange, decScanMode_isSome, and_assoc]

/-- CFG_SCAN_STEP within its ranges in CONFIG (R49). -/
theorem reqCfgScanStep_applied {s : State} (h : s.inRun = false) {f : Request} (hok : scanStepInRange f = true) :
    reqCfgScanStep f s = ⟨.ok, [],
      setScanStep f (if f.u8 5 = 0 then .continuous else if f.u8 5 = 1 then .single else .track) s⟩ := by
  obtain ⟨-, -, -, -, -, h5⟩ := (scanStepInRange_iff f).1 hok
  have e : reqCfgScanStep f s = configOnly s (scanStepInRange f) [] (setScanStep f ((decScanMode (f.u8 5)).getD .single) s) := rfl
  rw [e, configOnly_of_config h, if_pos hok, decScanMode_eq h5, Option.getD_some]

theorem windowOk_iff (lo hi : Int) : windowOk lo hi = true ↔ -4096 ≤ lo ∧ lo < hi ∧ hi ≤ 4095 := by
  simp only [windowOk, inRangeI, Bool.and_eq_true, decide_eq_true_eq]
  omega

/-- The range checks of CFG_DRAFT (R39). -/
def draftInRange (f : Request) : Bool :=
  decide (f.u8 0 = 1 ∨ f.u8 0 = 2 ∨ f.u8 0 = 4) && inRange 0 1 (f.u8 1) && inRange 0 3 (f.u8 2)
    && windowOk (f.s16 3) (f.s16 5) && windowOk (f.s16 7) (f.s16 9) && inRange 0 6000 (f.u16 11) && inRange 1 255 (f.u8 13)

theorem draftInRange_iff (f : Request) : draftInRange f = true ↔
    (f.u8 0 = 1 ∨ f.u8 0 = 2 ∨ f.u8 0 = 4) ∧ f.u8 1 ≤ 1 ∧ f.u8 2 ≤ 3
      ∧ (-4096 ≤ f.s16 3 ∧ f.s16 3 < f.s16 5 ∧ f.s16 5 ≤ 4095) ∧ (-4096 ≤ f.s16 7 ∧ f.s16 7 < f.s16 9 ∧ f.s16 9 ≤ 4095)
      ∧ f.u16 11 ≤ 6000 ∧ 1 ≤ f.u8 13 := by
  have h13 : f.u8 13 ≤ 255 := Nat.le_of_lt_succ (u8_lt f 13)
  simp [draftInRange, inRange, windowOk_iff, and_assoc, h13]

/-- The range checks of CFG_SPEED_INPUT (R61). -/
def speedInputInRange (f : Request) : Bool :=
  inRange 0 3 (f.u8 0) && inRange 1 255 (f.u8 1) && inRange 1 65535 (f.u16 2) && inRange 0 1 (f.u8 4)
    && decide (f.u8 4 = 1 ∨ f.u8 0 = 3)

theorem speedInputInRange_iff (f : Request) : speedInputInRange f = true ↔
    f.u8 0 ≤ 3 ∧ 1 ≤ f.u8 1 ∧ 1 ≤ f.u16 2 ∧ f.u8 4 ≤ 1 ∧ (f.u8 4 = 1 ∨ f.u8 0 = 3) := by
  have h1 : f.u8 1 ≤ 255 := Nat.le_of_lt_succ (u8_lt f 1)
  have h2 : f.u16 2 ≤ 65535 := Nat.le_of_lt_succ (u16_lt f 2)
  simp [speedInputInRange, inRange, and_assoc, h1, h2]

end Sys2Proof.Machine

open Sys2Proof Sys2Proof.Machine

/-- Settles O18: each request by its range checks, and CFG_SCAN_STEP by what becomes of the roles it leaves without a step. -/
theorem measurementSettingsAreStored : Obligations.MeasurementSettingsAreStored := by
  unfold Obligations.MeasurementSettingsAreStored
  refine ⟨fun f s h hl => ?_, fun f s h hl => ?_, fun f s h hl => ?_, fun f s h hl => ?_⟩
  · intro steps inRanges
    have hlen : f.len.toNat = 6 := by rw [hl]; rfl
    have hok : scanStepInRange f = true ↔ inRanges := scanStepInRange_iff f
    refine ⟨fun hx => ?_, fun hx => ?_⟩
    · exact answers_refusedRange (c := .cfgScanStep f) rfl rfl h hlen (fun _ => rfl) (Bool.eq_false_iff.2 (hok.not.2 hx))
    obtain ⟨lp, -, e⟩ := takeRequest_answers h.ready hlen reqCfgScanStep (kind := 12)
    obtain ⟨hw, hheld, hother⟩ := setScanStep_does f
      (if f.u8 5 = 0 then .continuous else if f.u8 5 = 1 then .single else .track) { s with lp := lp }
    rw [reqCfgScanStep_applied (s := { s with lp := lp }) h.2 (hok.2 hx)] at e
    generalize setScanStep f _ { s with lp := lp } = u at e hw hheld hother
    obtain ⟨lp', mem, ft, rfl⟩ := hw
    dsimp only at e
    rw [settle_of_zero (by exact h.1)] at e
    refine ⟨_, congrArg Host.Outcome.next e, rfl, rfl, rfl, fun r hr => ?_, fun r hr => ?_, hother⟩
    · exact Prod.ext_iff.1 ((hheld r).trans (if_neg fun x => Bool.noConfusion (hr.symm.trans x)))
    · exact Prod.ext_iff.1 ((hheld r).trans (if_pos hr))
  · have hlen : f.len.toNat = 5 := by rw [hl]; rfl
    refine ⟨fun hx => ?_, fun h0 h1 => ?_⟩
    · refine answers_refusedRange (c := .cfgRole f) rfl rfl h hlen (fun _ => rfl) ?_
      rcases hx with hx | hx <;> simp [inRange, hx]
    · exact answers_applied (c := .cfgRole f) rfl rfl h hlen (fun _ => rfl) (by simp [inRange, h0, h1]) (by exact h.1) rfl
        fun _ => rfl
  · intro windowOk inRanges
    have hlen : f.len.toNat = 14 := by rw [hl]; rfl
    have hok : draftInRange f = true ↔ inRanges := draftInRange_iff f
    refine ⟨fun hx => ?_, fun hx => ?_⟩
    · exact answers_refusedRange (c := .cfgDraft f) rfl rfl h hlen (fun _ => rfl) (Bool.eq_false_iff.2 (hok.not.2 hx))
    · exact answers_applied (c := .cfgDraft f) rfl rfl h hlen (fun _ => rfl) (hok.2 hx) (by exact h.1) rfl fun _ => rfl
  · intro inRanges
    have hlen : f.len.toNat = 5 := by rw [hl]; rfl
    have hok : speedInputInRange f = true ↔ inRanges := speedInputInRange_iff f
    refine ⟨fun hx => ?_, fun i hi hx => ?_⟩
    · exact answers_refusedRange (c := .cfgSpeedInput f) rfl rfl h hlen (fun _ => rfl) (Bool.eq_false_iff.2 (hok.not.2 hx))
    · refine answers_applied (c := .cfgSpeedInput f) rfl rfl h hlen (fun _ => rfl) (hok.2 hx) (by exact h.1) rfl fun lp => ?_
      rw [dif_pos (show f.u8 0 < 4 by omega)]
      simp only [modPulse, hi]
      rfl
end

section
/-! O15: the seven checks of START (R33). -/

namespace Sys2Proof.Machine

open Sys2Proof

/-! ### The first of a list of checks that fails -/

/-- The first of the numbered checks that fails gives the failure. -/
theorem findSome?_finRange_of_first {α : Type} {n : Nat} {f : Fin n → Option α} {i : Fin n} {x : α}
    (hi : f i = some x) (hlt : ∀ j : Fin n, j < i → f j = none) : (List.finRange n).findSome? f = some x := by
  induction n with
  | zero => exact i.elim0
  | succ n ih =>
    rw [List.finRange_succ, List.findSome?_cons, List.findSome?_map]
    cases i using Fin.cases with
    | zero => rw [hi]
    | succ i =>
      rw [hlt 0 (Fin.succ_pos i)]
      exact ih hi fun j hj => hlt j.succ (Fin.succ_lt_succ_iff.2 hj)

theorem findSome?_finRange_none {α : Type} {n : Nat} {f : Fin n → Option α} :
    (List.finRange n).findSome? f = none ↔ ∀ i, f i = none := by
  simp

theorem findSome?_cons_or {α β : Type} (f : α → Option β) (a : α) (l : List α) :
    (a :: l).findSome? f = (f a).or (l.findSome? f) := by
  rw [List.findSome?_cons]
  cases f a <;> rfl

/-! ### Gears, clutches and roles -/

/-- An enabled entry of the gear table (R93). -/
abbrev GearEntry.on (e : GearEntry) : Prop := e.isSet = true ∧ e.enabled = true

theorem gearAt_succ (gs : Vector GearEntry 12) (g : Fin 12) : gearAt gs (g.val + 1) = gs[g] := by
  simp [gearAt]

theorem gearEnabled_succ (gs : Vector GearEntry 12) (g : Fin 12) : gearEnabled gs (g.val + 1) = true ↔ (gs[g]).on := by
  rw [gearEnabled, gearAt_succ, Bool.and_eq_true]

/-- The enabled set is not empty (R93). -/
theorem exists_gear_on (gs : Vector GearEntry 12) :
    (∃ g : Fin 12, (gs[g]).on) ↔ ∃ g, 1 ≤ g ∧ g ≤ 12 ∧ gearEnabled gs g = true := by
  constructor
  · rintro ⟨g, hg⟩
    exact ⟨g.val + 1, by omega, by omega, (gearEnabled_succ gs g).2 hg⟩
  · rintro ⟨g, h1, h2, hg⟩
    refine ⟨⟨g - 1, by omega⟩, (gearEnabled_succ gs _).1 ?_⟩
    rwa [show g - 1 + 1 = g by omega]

theorem anyGear_iff (gs : Vector GearEntry 12) (p : Nat → GearEntry → Bool) :
    anyGear gs p = true ↔ ∃ g : Fin 12, (gs[g]).on ∧ p (g.val + 1) gs[g] = true := by
  simp only [anyGear, List.any_eq_true, List.mem_range, Bool.and_eq_true]
  constructor
  · rintro ⟨i, hi, hon, hp⟩
    exact ⟨⟨i, hi⟩, (gearEnabled_succ gs ⟨i, hi⟩).1 hon, by rwa [← gearAt_succ gs ⟨i, hi⟩]⟩
  · rintro ⟨g, hon, hp⟩
    exact ⟨g.val, g.isLt, (gearEnabled_succ gs g).2 hon, by rwa [gearAt_succ]⟩

/-- The gears whose clutches START tests by their codes: speed, range, F, and R up to the reverse cap (R33). -/
theorem clutchUsed_iff (s : State) (c : Fin 9) : clutchUsed s c = true ↔ ∃ g : Fin 12, (s.sc.gears[g]).on ∧
    if c.val < 4 then (s.sc.gears[g]).speed.val = c.val
    else if c.val < 7 then (s.sc.gears[g]).range.val + 4 = c.val
    else c.val = 7 ∨ g.val + 1 ≤ s.pc.limits.rMax := by
  unfold clutchUsed
  split
  · simp [anyGear_iff, speedClutch, Fin.ext_iff]
  split
  · simp [anyGear_iff, rangeClutch, Fin.ext_iff, Nat.add_comm]
  split
  · simp [anyGear_iff, *]
  · simp [anyGear_iff, *]

theorem roleAssigned_iff (steps : Vector ScanStep 16) (r : Nat) :
    roleAssigned steps r = true ↔ ∃ i : Fin 16, (steps[i]).enabled = true ∧ (steps[i]).role = r := by
  simp only [roleAssigned, List.any_eq_true, Bool.and_eq_true, decide_eq_true_eq]
  constructor
  · rintro ⟨st, hm, h⟩
    obtain ⟨i, hi, rfl⟩ := Vector.getElem_of_mem (Vector.mem_toList_iff.1 hm)
    exact ⟨⟨i, hi⟩, h⟩
  · rintro ⟨i, h⟩
    exact ⟨steps[i], Vector.mem_toList_iff.2 (Vector.getElem_mem _), h⟩

/-! ### The checks one by one -/

theorem checkGears_eq (s : State) : checkGears s = if ∃ g : Fin 12, (s.sc.gears[g]).on then none else some (1, 0, 0) := by
  unfold checkGears
  simp only [anyGear_iff, and_true]

/-- Check 2 of one entry of the profile map. -/
def mapCheck (s : State) (e : Fin 7) : Option CheckFail :=
  match s.sc.map[e] with
  | none => some (2, e.val, 0)
  | some p => if (s.sc.profiles[p]).isEmpty then some (2, e.val, 1) else none

theorem checkMap_eq (s : State) : checkMap s = (List.finRange 7).findSome? (mapCheck s) := rfl

theorem mapCheck_unmapped {s : State} {e : Fin 7} (h : s.sc.map[e] = none) : mapCheck s e = some (2, e.val, 0) := by
  unfold mapCheck
  rw [h]

theorem mapCheck_mapped {s : State} {e : Fin 7} {p : Fin 8} (h : s.sc.map[e] = some p) :
    mapCheck s e = if s.sc.profiles[p] = [] then some (2, e.val, 1) else none := by
  unfold mapCheck
  rw [h]
  simp only [List.isEmpty_iff]

theorem mapCheck_none (s : State) (e : Fin 7) :
    mapCheck s e = none ↔ ∃ p, s.sc.map[e] = some p ∧ s.sc.profiles[p] ≠ [] := by
  cases h : s.sc.map[e] with
  | none => simp [mapCheck_unmapped h]
  | some p => simp [mapCheck_mapped h]

/-- Check 3 of one clutch. -/
def clutchCheck (s : State) (c : Fin 9) : Option CheckFail :=
  if clutchUsed s c then
    if roleAssigned s.mu.steps c.val then
      if (s.vo.chan[clutchChan c]).charac.isSome then none else some (3, c.val, 1)
    else some (3, c.val, 0)
  else none

theorem checkClutches_eq (s : State) : checkClutches s = (List.finRange 9).findSome? (clutchCheck s) := rfl

theorem clutchCheck_none (s : State) (c : Fin 9) : clutchCheck s c = none ↔
    (clutchUsed s c = true → roleAssigned s.mu.steps c.val = true ∧ (s.vo.chan[clutchChan c]).charac ≠ none) := by
  unfold clutchCheck
  cases clutchUsed s c <;> cases roleAssigned s.mu.steps c.val <;> simp [Option.isSome_iff_ne_none]

theorem clutchCheck_unassigned {s : State} {c : Fin 9} (hu : clutchUsed s c = true) (ha : ¬roleAssigned s.mu.steps c.val = true) :
    clutchCheck s c = some (3, c.val, 0) := by
  simp [clutchCheck, hu, ha]

theorem clutchCheck_unset {s : State} {c : Fin 9} (hu : clutchUsed s c = true) (ha : roleAssigned s.mu.steps c.val = true)
    (hx : (s.vo.chan[clutchChan c]).charac = none) : clutchCheck s c = some (3, c.val, 1) := by
  unfold clutchCheck
  rw [if_pos hu, if_pos ha, hx]
  rfl

/-- Point `k + 1` of a curve lies below point `k` in pedal or in command (R33). -/
def Falls (curve : List (Nat × Nat)) (k : Nat) : Prop :=
  (curve.getD (k + 1) (0, 0)).1 < (curve.getD k (0, 0)).1 ∨ (curve.getD (k + 1) (0, 0)).2 < (curve.getD k (0, 0)).2

theorem firstDecrease_cons_cons (m : Nat) (a b : Nat × Nat) (rest : List (Nat × Nat)) : firstDecrease m (a :: b :: rest) =
    if b.1 < a.1 ∨ b.2 < a.2 then some (m + 1) else firstDecrease (m + 1) (b :: rest) := rfl

theorem firstDecrease_of_first {curve : List (Nat × Nat)} {k : Nat} (m : Nat) (hk : k + 1 < curve.length) (hf : Falls curve k)
    (hlt : ∀ i, i < k → ¬Falls curve i) : firstDecrease m curve = some (m + k + 1) := by
  induction curve generalizing k m with
  | nil => cases hk
  | cons a l ih =>
    cases l with
    | nil => simp at hk
    | cons b rest =>
      rw [firstDecrease_cons_cons]
      cases k with
      | zero => exact if_pos hf
      | succ k =>
        rw [if_neg (show ¬(b.1 < a.1 ∨ b.2 < a.2) from hlt 0 (Nat.succ_pos k)),
          ih (m + 1) (Nat.succ_lt_succ_iff.1 hk) hf fun i hi => hlt (i + 1) (Nat.succ_lt_succ hi)]
        congr 1
        omega

theorem firstDecrease_none (m : Nat) (curve : List (Nat × Nat)) :
    firstDecrease m curve = none ↔ ∀ k, k + 1 < curve.length → ¬Falls curve k := by
  constructor
  · intro h k
    induction k using Nat.strong_induction_on with
    | _ k ih =>
      intro hk hf
      rw [firstDecrease_of_first m hk hf fun i hi => ih i hi (by omega)] at h
      cases h
  · intro h
    induction curve generalizing m with
    | nil => rfl
    | cons a l ih =>
      cases l with
      | nil => rfl
      | cons b rest =>
        rw [firstDecrease_cons_cons, if_neg (show ¬(b.1 < a.1 ∨ b.2 < a.2) from h 0 (by simp))]
        exact ih _ fun k hk => h (k + 1) (Nat.succ_lt_succ hk)

theorem firstDecrease_none_iff_chain (m : Nat) (curve : List (Nat × Nat)) :
    firstDecrease m curve = none ↔ curve.IsChain fun a b => a.1 ≤ b.1 ∧ a.2 ≤ b.2 := by
  induction curve generalizing m with
  | nil => simp [firstDecrease]
  | cons a l ih =>
    cases l with
    | nil => simp [firstDecrease]
    | cons b rest =>
      rw [List.isChain_cons_cons, ← ih (m + 1), firstDecrease_cons_cons]
      by_cases h : b.1 < a.1 ∨ b.2 < a.2
      · rw [if_pos h]
        simp only [reduceCtorEq, false_iff]
        omega
      · rw [if_neg h]
        rw [not_or, Nat.not_lt, Nat.not_lt] at h
        simp [h]

/-- A curve none of whose points lies below the one before it rises throughout (R33). -/
theorem firstDecrease_none_iff_pairwise (m : Nat) (curve : List (Nat × Nat)) :
    firstDecrease m curve = none ↔ curve.Pairwise fun a b => a.1 ≤ b.1 ∧ a.2 ≤ b.2 := by
  have : IsTrans (Nat × Nat) fun a b => a.1 ≤ b.1 ∧ a.2 ≤ b.2 := ⟨fun _ _ _ h h' => ⟨h.1.trans h'.1, h.2.trans h'.2⟩⟩
  rw [firstDecrease_none_iff_chain, List.isChain_iff_pairwise]

theorem checkCurve_short {s : State} (h : ¬(2 ≤ s.tbc.curve.length ∧ s.tbc.curve.length ≤ 8)) :
    checkCurve s = some (4, s.tbc.curve.length, 0) := if_neg h

theorem checkCurve_long {s : State} (h : 2 ≤ s.tbc.curve.length ∧ s.tbc.curve.length ≤ 8) :
    checkCurve s = (firstDecrease 1 s.tbc.curve).map fun i => (4, s.tbc.curve.length, i) := if_pos h

theorem checkCurve_none (s : State) : checkCurve s = none ↔
    2 ≤ s.tbc.curve.length ∧ s.tbc.curve.length ≤ 8 ∧ firstDecrease 1 s.tbc.curve = none := by
  by_cases h : 2 ≤ s.tbc.curve.length ∧ s.tbc.curve.length ≤ 8
  · rw [checkCurve_long h, Option.map_eq_none_iff]
    simp [h]
  · rw [checkCurve_short h]
    simp only [reduceCtorEq, false_iff]
    exact fun x => h ⟨x.1, x.2.1⟩

/-- The roles of check 5 by their places in its order (R33). -/
def requiredRole (k : Fin 6) : Fin 16 := #v[roleSupply, rolePos, rolePedalL, rolePedalR, roleCtrl, roleSupp][k]

theorem requiredRole_val (k : Fin 6) : (requiredRole k).val = [9, 14, 12, 13, 10, 11].getD k.val 0 := by
  revert k
  decide

theorem forall_requiredRole (p : Nat → Prop) : (∀ k, p (requiredRole k).val) ↔ ∀ r ∈ [9, 14, 12, 13, 10, 11], p r := by
  simp only [requiredRole_val, Fin.forall_fin_succ, List.forall_mem_cons]
  simp

/-- Check 5 of one role. -/
def roleCheck (s : State) (k : Fin 6) : Option CheckFail :=
  if roleAssigned s.mu.steps (requiredRole k).val = true then none else some (5, (requiredRole k).val, 0)

theorem roleCheck_none (s : State) (k : Fin 6) :
    roleCheck s k = none ↔ roleAssigned s.mu.steps (requiredRole k).val = true := by
  simp [roleCheck]

theorem roleCheck_unassigned {s : State} {k : Fin 6} (h : ¬roleAssigned s.mu.steps (requiredRole k).val = true) :
    roleCheck s k = some (5, (requiredRole k).val, 0) := if_neg h

theorem checkRoles_eq (s : State) : checkRoles s = (List.finRange 6).findSome? (roleCheck s) := by
  have hroles : requiredRoles = (List.finRange 6).map requiredRole := by decide
  unfold checkRoles
  rw [List.find?_eq_findSome?_guard, List.map_findSome?, hroles, List.findSome?_map]
  congr 1
  funext k
  unfold roleCheck
  simp only [Function.comp_apply]
  cases h : roleAssigned s.mu.steps (requiredRole k).val <;> simp [Option.guard, h]

theorem checkMode_eq (s : State) : checkMode s = if s.mu.scanMode = .single then some (6, 1, 0) else none := by
  unfold checkMode
  split
  · rename_i h; rw [h]; rfl
  · rfl

theorem checkLimits_unverified {s : State} (h : s.pc.limits.gMaxRoad < s.pc.limits.gMaxUnverified) :
    checkLimits s = some (7, 1, 0) := if_pos h

theorem checkLimits_field {s : State} (h : s.pc.limits.gMaxUnverified ≤ s.pc.limits.gMaxRoad)
    (h' : s.pc.limits.gMaxRoad < s.pc.limits.gMaxField) : checkLimits s = some (7, 2, 0) := by
  rw [checkLimits, if_neg (Nat.not_lt.2 h), if_pos h']

theorem checkLimits_none (s : State) : checkLimits s = none ↔
    s.pc.limits.gMaxUnverified ≤ s.pc.limits.gMaxRoad ∧ s.pc.limits.gMaxField ≤ s.pc.limits.gMaxRoad := by
  unfold checkLimits
  split
  · simp only [reduceCtorEq, false_iff]; omega
  split
  · simp only [reduceCtorEq, false_iff]; omega
  · simp only [true_iff]; omega

/-! ### The seven in turn -/

theorem startChecks_eq (s : State) : startChecks s = (checkGears s).or ((checkMap s).or ((checkClutches s).or
    ((checkCurve s).or ((checkRoles s).or ((checkMode s).or (checkLimits s)))))) := by
  simp only [startChecks, findSome?_cons_or, List.findSome?_nil, Option.or_none]

section
variable {s : State} {x : CheckFail}

theorem startChecks_of_gears (e : checkGears s = some x) : startChecks s = some x := by
  rw [startChecks_eq, e]; rfl

theorem startChecks_of_map (h : checkGears s = none) (e : checkMap s = some x) : startChecks s = some x := by
  rw [startChecks_eq, h, e]; rfl

theorem startChecks_of_clutches (h : checkGears s = none ∧ checkMap s = none) (e : checkClutches s = some x) :
    startChecks s = some x := by
  rw [startChecks_eq, h.1, h.2, e]; rfl

theorem startChecks_of_curve (h : (checkGears s = none ∧ checkMap s = none) ∧ checkClutches s = none)
    (e : checkCurve s = some x) : startChecks s = some x := by
  obtain ⟨⟨h1, h2⟩, h3⟩ := h
  rw [startChecks_eq, h1, h2, h3, e]; rfl

/-- With the first four passed, the last three give the result. -/
theorem startChecks_after_curve
    (h : ((checkGears s = none ∧ checkMap s = none) ∧ checkClutches s = none) ∧ checkCurve s = none) :
    startChecks s = (checkRoles s).or ((checkMode s).or (checkLimits s)) := by
  obtain ⟨⟨⟨h1, h2⟩, h3⟩, h4⟩ := h
  rw [startChecks_eq, h1, h2, h3, h4]; rfl

end

theorem startChecks_none (s : State) : startChecks s = none ↔
    (∃ g : Fin 12, (s.sc.gears[g]).on) ∧ (∀ e, mapCheck s e = none) ∧ (∀ c, clutchCheck s c = none) ∧ checkCurve s = none
      ∧ (∀ k, roleCheck s k = none) ∧ s.mu.scanMode ≠ .single ∧ checkLimits s = none := by
  simp only [startChecks_eq, Option.or_eq_none_iff, checkGears_eq, checkMap_eq, checkClutches_eq, checkRoles_eq, checkMode_eq,
    findSome?_finRange_none]
  simp

/-- A START in CONFIG whose checks fail is refused with the failure and changes nothing (R33). -/
theorem start_refused {f : Request} {s : State} (h : InConfig s) (hl : f.len = 0) {n a b : Nat}
    (hc : startChecks s = some (n, a, b)) :
    Answers (.start f) s 9 f .refusedConfig (be8 n ++ be8 a ++ be8 b) s := by
  refine answers_kept (c := .start f) rfl rfl h.ready (by rw [hl]; rfl) h.1 rfl fun lp => ?_
  have hlp : startChecks { s with lp := lp } = some (n, a, b) :=
    (startChecks_congr (s := s) ⟨rfl, rfl, rfl, rfl, rfl⟩).trans hc
  unfold reqStart
  rw [if_neg (show ¬({ s with lp := lp } : State).inRun = true from ne_true_of_eq_false h.2), hlp]

end Sys2Proof.Machine

open Sys2Proof Sys2Proof.Machine

/-- Settles O15: the seven checks in turn, each check's items in turn. -/
theorem startRefusesByItsSevenChecks : Obligations.StartRefusesByItsSevenChecks := by
  unfold Obligations.StartRefusesByItsSevenChecks
  refine ⟨fun s => ?_, fun f s h hl => ?_⟩
  · rw [startChecks_none]
    refine and_congr ?_ (and_congr ?_ (and_congr ?_ (and_congr ?_ (and_congr ?_ (and_congr Iff.rfl ?_)))))
    · exact exists_gear_on s.sc.gears
    · exact forall_congr' (mapCheck_none s)
    · exact forall_congr' (clutchCheck_none s)
    · rw [checkCurve_none, firstDecrease_none_iff_pairwise]
    · exact (forall_congr' (roleCheck_none s)).trans (forall_requiredRole fun r => roleAssigned s.mu.steps r = true)
    · exact checkLimits_none s
  · intro refused on used assigned point falls n need pass2 pass3 to1 to2 to3 to4 to5
    have hrefused : ∀ {n a b : Nat}, startChecks s = some (n, a, b) → refused n a b := start_refused h hl
    have hused : ∀ c, clutchUsed s c = true ↔ used c := clutchUsed_iff s
    have hassigned : ∀ r, roleAssigned s.mu.steps r = true ↔ assigned r := roleAssigned_iff s.mu.steps
    have hneed : ∀ k, roleAssigned s.mu.steps (requiredRole k).val = true ↔ assigned (need k.val) := fun k => by
      rw [requiredRole_val, hassigned]
    have hmap : ∀ e, pass2 e → mapCheck s e = none := fun e => (mapCheck_none s e).2
    have hclutch : ∀ c, pass3 c → clutchCheck s c = none := fun c hp => by
      rw [clutchCheck_none, hused, hassigned]
      exact hp
    have hrole : ∀ k, assigned (need k.val) → roleCheck s k = none := fun k hp => (roleCheck_none s k).2 ((hneed k).2 hp)
    have passed1 : to1 → checkGears s = none := fun h1 => by rw [checkGears_eq, if_pos h1]
    have passed2 : to2 → checkGears s = none ∧ checkMap s = none := fun ⟨h1, hp⟩ =>
      ⟨passed1 h1, findSome?_finRange_none.2 fun e => hmap e (hp e)⟩
    have passed3 : to3 → (checkGears s = none ∧ checkMap s = none) ∧ checkClutches s = none := fun ⟨h2, hp⟩ =>
      ⟨passed2 h2, findSome?_finRange_none.2 fun c => hclutch c (hp c)⟩
    have passed4 : to4 → ((checkGears s = none ∧ checkMap s = none) ∧ checkClutches s = none) ∧ checkCurve s = none :=
      fun ⟨h3, hlo, hhi, hp⟩ => ⟨passed3 h3,
        (checkCurve_none s).2 ⟨hlo, hhi, (firstDecrease_none 1 _).2 fun k hn => hp ⟨k, by omega⟩ hn⟩⟩
    have passed5 : to5 → startChecks s = (checkMode s).or (checkLimits s) := fun ⟨h4, hp⟩ => by
      rw [startChecks_after_curve (passed4 h4), checkRoles_eq, findSome?_finRange_none.2 fun k => hrole k (hp k)]
      rfl
    refine ⟨fun h1 => hrefused ?_, fun e h1 hlt => ⟨fun he => hrefused ?_, fun p he hp => hrefused ?_⟩,
      fun c h2 hlt hu => ⟨fun ha => hrefused ?_, fun ha hx => hrefused ?_⟩, fun h3 hn => hrefused ?_,
      fun k h3 hk hn hlt hf => hrefused ?_, fun k h4 hlt hk => hrefused ?_, fun h5 hm => hrefused ?_,
      fun h5 hm => ⟨fun hl7 => hrefused ?_, fun hl7 hl8 => hrefused ?_⟩⟩
    · exact startChecks_of_gears ((checkGears_eq s).trans (if_neg h1))
    · exact startChecks_of_map (passed1 h1)
        (findSome?_finRange_of_first (mapCheck_unmapped he) fun i hi => hmap i (hlt i hi))
    · exact startChecks_of_map (passed1 h1)
        (findSome?_finRange_of_first ((mapCheck_mapped he).trans (if_pos hp)) fun i hi => hmap i (hlt i hi))
    · have hc := clutchCheck_unassigned ((hused c).2 hu) ((hassigned c.val).not.2 ha)
      exact startChecks_of_clutches (passed2 h2) (findSome?_finRange_of_first hc fun i hi => hclutch i (hlt i hi))
    · have hc := clutchCheck_unset ((hused c).2 hu) ((hassigned c.val).2 ha) hx
      exact startChecks_of_clutches (passed2 h2) (findSome?_finRange_of_first hc fun i hi => hclutch i (hlt i hi))
    · exact startChecks_of_curve (passed3 h3) (checkCurve_short (by omega))
    · have hc := firstDecrease_of_first 1 hk hf fun i hi => hlt ⟨i, by omega⟩ hi
      refine startChecks_of_curve (passed3 h3) ?_
      rw [checkCurve_long (by omega), hc, Nat.add_comm 1]
      rfl
    · have hc := roleCheck_unassigned ((hneed k).not.2 hk)
      rw [startChecks_after_curve (passed4 h4), checkRoles_eq,
        findSome?_finRange_of_first hc fun i hi => hrole i (hlt i hi), requiredRole_val]
      rfl
    · rw [passed5 h5, checkMode_eq, if_pos hm]
      rfl
    · rw [passed5 h5, checkMode_eq, if_neg hm]
      exact checkLimits_unverified hl7
    · rw [passed5 h5, checkMode_eq, if_neg hm]
      exact checkLimits_field hl7 hl8
end

section
/-! O16: START with its checks passed, block by block in the order of R34. -/

namespace Sys2Proof.Machine

open Sys2Proof

/-! ### The MU -/

theorem nextEnabled_isSome {steps : Vector ScanStep 16} {r : Nat} (h : roleAssigned steps r = true) :
    (nextEnabled steps 0).isSome = true := by
  obtain ⟨i, hi, -⟩ := (roleAssigned_iff steps r).1 h
  exact List.find?_isSome.2 ⟨i, List.mem_finRange i, by simpa using hi⟩

/-- A run starts in progress where a step is enabled, and writes nothing else (R50). -/
theorem startRun_of_enabled {s : State} (h : (nextEnabled s.mu.steps 0).isSome = true) :
    ∃ run, startRun s = { s with mu := { s.mu with run := some run } } := by
  obtain ⟨i, hi⟩ := Option.isSome_iff_exists.1 h
  unfold startRun
  rw [hi]
  exact ⟨_, rfl⟩

theorem nextRun_of_continuous {s : State} (hr : s.inRun = true) (hm : s.mu.scanMode = .continuous) : nextRun s = startRun s :=
  if_pos (Bool.and_eq_true_iff.2 ⟨hr, decide_eq_true hm⟩)

theorem nextRun_of_other {s : State} (hm : s.mu.scanMode ≠ .continuous) : nextRun s = s :=
  if_neg fun x => hm (of_decide_eq_true (Bool.and_eq_true_iff.1 x).2)

/-- The MU as START starts it, with the run `run` in progress (R34). -/
def measureStarted (s : State) (run : Option ScanRun) : Measure :=
  { s.mu with
    run := run, stopPending := false, dc := startDraft s.mu.cfg s.time, foc := startFast s.time, draft := {}
    stale := some (s.time + 50000) }

theorem startMeasure_next (s : State) : startMeasure s = nextRun { s with mu := measureStarted s none } := rfl

/-- The MU at START writes its own record; CONTINUOUS starts a run at once and TRACK none (R34, R51). -/
theorem startMeasure_eq {s : State} (hr : s.inRun = true) (h : (nextEnabled s.mu.steps 0).isSome = true) :
    ∃ run, startMeasure s = { s with mu := measureStarted s run }
      ∧ (s.mu.scanMode = .continuous → run.isSome = true) ∧ (s.mu.scanMode = .track → run = none) := by
  rw [startMeasure_next]
  by_cases hm : s.mu.scanMode = .continuous
  · obtain ⟨run, e⟩ := startRun_of_enabled (s := { s with mu := measureStarted s none }) h
    rw [nextRun_of_continuous (s := { s with mu := measureStarted s none }) hr hm, e]
    exact ⟨some run, rfl, fun _ => rfl, fun ht => by rw [hm] at ht; cases ht⟩
  · rw [nextRun_of_other (s := { s with mu := measureStarted s none }) hm]
    exact ⟨none, rfl, fun x => absurd x hm, fun _ => rfl⟩

/-! ### The VO -/

/-- The VO of a part started in `s`: the supply LOW, and each channel with its characteristic kept, released, its diagnosis
running and its command 0, but `ctrl` at the control line (R77, R83, R90). -/
def ValvesStarted (s : State) (ctrl : Nat) (v : ValveOut) : Prop :=
  v.supply = .low ∧ v.supplyHold = none ∧ ∀ i : Fin 14,
    (v.chan[i]).charac = (s.vo.chan[i]).charac ∧ (v.chan[i]).forced = false ∧ (v.chan[i]).diag = some (s.time + 1000)
      ∧ (v.chan[i]).command = if i = chCtrl then ctrl else 0

/-- A write changes of a channel its command and its drive current (R79, R82). -/
theorem writeChan_keeps (i j : Fin 14) (cmd : Nat) (s : State) :
    let ch := (writeChan i cmd s).vo.chan[j]
    ch.charac = (s.vo.chan[j]).charac ∧ ch.forced = (s.vo.chan[j]).forced ∧ ch.diag = (s.vo.chan[j]).diag := by
  intro ch
  by_cases h : i = j
  · subst h
    simp [ch, writeChan, formDrive, modChan]
  · rw [show ch = s.vo.chan[j] from writeChan_other h cmd s]
    exact ⟨rfl, rfl, rfl⟩

/-- A write of the command that the started VO gives its channel leaves it started. -/
theorem ValvesStarted.writeChan {s0 s : State} {c c' : Nat} (h : ValvesStarted s0 c s.vo) (i : Fin 14) (cmd : Nat)
    (hcmd : min cmd (chanMax i) = if i = chCtrl then c' else 0) (hc : i ≠ chCtrl → c' = c) :
    ValvesStarted s0 c' (Machine.writeChan i cmd s).vo := by
  obtain ⟨hs, hh, hch⟩ := h
  refine ⟨hs, hh, fun j => ?_⟩
  obtain ⟨k1, k2, k3⟩ := writeChan_keeps i j cmd s
  obtain ⟨h1, h2, h3, h4⟩ := hch j
  refine ⟨k1.trans h1, k2.trans h2, k3.trans h3, ?_⟩
  by_cases hij : i = j
  · subst hij
    rw [writeChan_command, hcmd]
  · rw [writeChan_other hij, h4]
    by_cases hj : j = chCtrl
    · rw [if_pos hj, if_pos hj, hc fun e => hij (e.trans hj.symm)]
    · rw [if_neg hj, if_neg hj]

theorem ValvesStarted.writeZero {s0 s : State} {c : Nat} (h : ValvesStarted s0 c s.vo) {i : Fin 14} (hi : i ≠ chCtrl) :
    ValvesStarted s0 c (Machine.writeChan i 0 s).vo :=
  h.writeChan i 0 (by rw [Nat.zero_min, if_neg hi]) fun _ => rfl

theorem ValvesStarted.writeCtrl {s0 s : State} {c : Nat} (h : ValvesStarted s0 c s.vo) (cmd : Nat) :
    ValvesStarted s0 (min cmd 2000) (Machine.writeChan chCtrl cmd s).vo :=
  h.writeChan chCtrl cmd rfl fun x => absurd rfl x

/-- A write of the clutches writes the VO alone (R77). -/
theorem writeClutches_vo (v : Vector Nat 9) (s : State) : ∃ vo, writeClutches v s = { s with vo := vo } := by
  unfold writeClutches
  generalize List.finRange 9 = l
  induction l generalizing s with
  | nil => exact ⟨s.vo, rfl⟩
  | cons a l ih =>
    obtain ⟨vo, e⟩ := ih (Machine.writeChan (clutchChan a) (min v[a] Config.pClutchMax) s)
    exact ⟨vo, e⟩

theorem clutchChan_ne_ctrl (c : Fin 9) : clutchChan c ≠ chCtrl := by
  revert c
  decide

theorem ValvesStarted.clutches {s0 s : State} {c : Nat} (h : ValvesStarted s0 c s.vo) :
    ValvesStarted s0 c (writeClutches (.replicate 9 0) s).vo := by
  unfold writeClutches
  generalize List.finRange 9 = l
  induction l generalizing s with
  | nil => exact h
  | cons a l ih =>
    rw [List.foldl_cons]
    refine ih ?_
    rw [show min (Vector.replicate 9 0)[a] Config.pClutchMax = 0 by simp]
    exact h.writeZero (clutchChan_ne_ctrl a)

theorem roleValueOr0_eq (s : State) (r : Fin 16) : s.roleValueOr0 r =
    if (s.mu.snapshot.entries[r]).present = true ∧ (s.mu.snapshot.entries[r]).valid = true then
      (s.mu.snapshot.entries[r]).value.toNat else 0 := by
  simp only [State.roleValueOr0, Bool.and_eq_true]

/-- The VO at START: its own record, and SUPPLY_LOW raised (R90, R92, R197). -/
theorem startValves_eq (s : State) : ∃ vo ft,
    startValves s = { s with lp := offerAll (raisedNote s fSupplyLow (s.roleValueOr0 roleSupply)) s.lp, vo := vo, ft := ft }
      ∧ ValvesStarted s 0 vo ∧ (ft[fSupplyLow]).state = .active ∧ ∀ i : Fin 47, i ≠ fSupplyLow → ft[i] = s.ft[i] := by
  unfold startValves
  refine ⟨_, _, ftStart_quiet_eq fSupplyLow _ _ (by simp), ⟨rfl, rfl, fun i => ?_⟩, ftStart_active _ _ _,
    fun i hi => ftStart_other hi.symm _ _⟩
  simp [startChan, Config.diagPeriod, Config.ms]

/-! ### The SC -/

/-- The gear window at START, the brake record in its initial state (R105, R106). -/
def startWindow (s : State) : GearWindow := windowOf s.pc.limits {} s.ft s.time

/-- In neutral with above_window off the SC has nothing to publish and nothing to tell (R109, R110). -/
theorem evalAbove_neutral {s : State} (hd : s.sc.pub.dir = .n) (ha : s.sc.pub.above = false) :
    postAbove s.sc.pub.above (evalAbove s) = s := by
  have h : aboveWindow s.sc.pub s.sc.window.gHigh = s.sc.pub.above := by simp [aboveWindow, hd, ha]
  have e : evalAbove s = s := by
    unfold evalAbove scPublish
    rw [h]
    exact if_pos rfl
  rw [e, postAbove, if_neg (by simp)]

theorem trailerFault_congr {ft ft' : Vector FaultEntry 47} (h : ∀ i : Fin 47, i ≠ fSupplyLow → ft[i] = ft'[i]) :
    trailerFault ft = trailerFault ft' := by
  unfold trailerFault
  rw [h fCtrlDeviation (by decide), h fSuppLow (by decide), h fSuppCharge (by decide)]

/-- The gear window computed in neutral with above_window off: the window is written, and its notice posted (R105, R107, R109). -/
theorem scWindow_neutral {s : State} (always : Bool) (hd : s.sc.pub.dir = .n) (ha : s.sc.pub.above = false) :
    let w := windowOf s.pc.limits s.tbc.pub s.ft s.time
    scWindow always s = { s with
      lp := offerAll (if always = true ∨ w.gHigh ≠ s.sc.window.gHigh ∨ w.reverseCap ≠ s.sc.window.reverseCap
        then [noticeOf s .windowChanged 1 .sc w.gHigh w.reverseCap] else []) s.lp
      sc := { s.sc with window := w } } := by
  intro w
  unfold scWindow
  dsimp only
  split <;> exact evalAbove_neutral hd ha

/-- The SC at START: IDLE in neutral, its commands at 0, the gear window computed and told (R105, R107, R110, R111). -/
theorem startShiftCtl_eq (s : State) : ∃ vo,
    startShiftCtl s = { s with
      lp := offerAll [noticeOf s .windowChanged 1 .sc (startWindow s).gHigh s.pc.limits.rMax] s.lp
      vo := vo, sc := { clearShift s.time s.sc with window := startWindow s }, tbc := clearTrailer s.time s.tbc }
      ∧ ∀ s0 c, ValvesStarted s0 c s.vo → ValvesStarted s0 c vo := by
  let cleared : State := { s with sc := clearShift s.time s.sc, tbc := clearTrailer s.time s.tbc }
  obtain ⟨vo, e⟩ := writeClutches_vo (.replicate 9 0) cleared
  refine ⟨vo, ?_, fun s0 c h => ?_⟩
  · show scWindow true (writeClutches _ cleared) = _
    rw [e, scWindow_neutral true rfl rfl, if_pos (.inl rfl)]
    rfl
  · have hc := ValvesStarted.clutches (s := cleared) h
    rwa [e] at hc

/-! ### The TBC -/

/-- The brake record that START publishes: PARK, nothing fitted, the line vented, the whole pressure commanded (R177, R182). -/
def startRecord (s : State) : BrakeRecord := { time := s.time, pCmd := s.pc.limits.pTrlMax }

theorem tbcForm_start (s : State) : tbcForm { s with tbc := clearTrailer s.time s.tbc } =
    { s with tbc := { clearTrailer s.time s.tbc with cur := startRecord s } } := by
  unfold tbcForm
  dsimp only
  rw [show (clearTrailer s.time s.tbc).devHold = none from rfl, ite_self]
  rfl

/-- The TBC at START with the gear window computed already: the record formed, both channels written, the record published, and
the window the same (R105, R177, R182). -/
theorem startTrailer_eq {s : State} (hd : s.sc.pub.dir = .n) (ha : s.sc.pub.above = false) (hw : s.sc.window = startWindow s) :
    ∃ vo, startTrailer s = { s with
        vo := vo, tbc := { clearTrailer s.time s.tbc with cur := startRecord s, pub := startRecord s } }
      ∧ ∀ s0 c, ValvesStarted s0 c s.vo → ValvesStarted s0 (min s.pc.limits.pTrlMax 2000) vo := by
  let formed : State := { s with tbc := { clearTrailer s.time s.tbc with cur := startRecord s } }
  let written : State := writeChan chSupp 0 (writeChan chCtrl s.pc.limits.pTrlMax formed)
  let published : State := { written with tbc := { written.tbc with pub := written.tbc.cur } }
  have hsame : windowOf published.pc.limits published.tbc.pub published.ft published.time = published.sc.window := hw.symm
  refine ⟨written.vo, ?_, fun s0 c h => ?_⟩
  · have e : startTrailer s = scWindow false published := by
      unfold startTrailer
      rw [tbcForm_start]
      rfl
    rw [e, scWindow_neutral (s := published) false hd ha, hsame, if_neg (by simp)]
    rfl
  · exact (ValvesStarted.writeCtrl (s := formed) h _).writeZero (by decide)

/-! ### The part -/

/-- START with its checks passed, block by block (R34). -/
theorem startPart_eq {s : State} (h : startChecks s = none) : ∃ run vo ft,
    startPart s = { s with
      pc := { s.pc with part := .run }
      lp := offerAll (raisedNote s fSupplyLow (s.roleValueOr0 roleSupply)
          ++ [noticeOf s .windowChanged 1 .sc (startWindow s).gHigh s.pc.limits.rMax])
        { s.lp with link := .up, supervision := some (s.time + s.lp.tLink * 1000) }
      mu := measureStarted s run
      me := {
        engine := { s.me.engine with stale := false }
        updateDue := some (s.time + 10000), engineStale := some (s.time + 500000) }
      vo := vo
      sc := { clearShift s.time s.sc with window := startWindow s }
      fdm := { clearFront s.time s.fdm with mode := .auto, causeConfig := false, causeSupply := true }
      hc := { cfg := s.hc.cfg, changeTime := s.time, causeSupply := true }
      tbc := { clearTrailer s.time s.tbc with cur := startRecord s, pub := startRecord s }
      ft := ft }
      ∧ (s.mu.scanMode = .continuous → run.isSome = true) ∧ (s.mu.scanMode = .track → run = none)
      ∧ ValvesStarted s (min s.pc.limits.pTrlMax 2000) vo
      ∧ (ft[fSupplyLow]).state = .active ∧ ∀ i : Fin 47, i ≠ fSupplyLow → ft[i] = s.ft[i] := by
  let entered : State := restartSupervision { s with pc := { s.pc with part := .run }, lp := { s.lp with link := .up } }
  have henabled : (nextEnabled s.mu.steps 0).isSome = true := by
    obtain ⟨-, -, -, -, hroles, -⟩ := (startChecks_none s).1 h
    exact nextEnabled_isSome ((roleCheck_none s 0).1 (hroles 0))
  obtain ⟨run, hmeasure, hcont, htrack⟩ := startMeasure_eq (s := entered) rfl henabled
  let measured : State := { entered with mu := measureStarted entered run }
  obtain ⟨vo1, ft, hvalves, hstarted, hactive, hother⟩ := startValves_eq measured
  let valved : State := { measured with
    lp := offerAll (raisedNote measured fSupplyLow (measured.roleValueOr0 roleSupply)) measured.lp, vo := vo1, ft := ft }
  obtain ⟨vo2, hshift, hkeeps⟩ := startShiftCtl_eq (startMotion valved)
  let shifted : State := { startMotion valved with
    lp := offerAll [noticeOf s .windowChanged 1 .sc (startWindow (startMotion valved)).gHigh s.pc.limits.rMax] valved.lp
    vo := vo2, sc := { clearShift s.time s.sc with window := startWindow (startMotion valved) }, tbc := clearTrailer s.time s.tbc }
  obtain ⟨vo, htrailer, hctrl⟩ := startTrailer_eq (s := startHitch (startFront shifted)) rfl rfl rfl
  have e : startPart s = startTrailer (startHitch (startFront shifted)) := by
    show startTrailer (startHitch (startFront (startShiftCtl (startMotion (startValves (startMeasure entered)))))) = _
    rw [hmeasure, hvalves]
    exact congrArg (fun u => startTrailer (startHitch (startFront u))) hshift
  have hwindow : startWindow (startMotion valved) = startWindow s := by
    show windowOf s.pc.limits {} ft s.time = windowOf s.pc.limits {} s.ft s.time
    rw [windowOf, windowOf, trailerFault_congr hother]
    rfl
  refine ⟨run, vo, ft, ?_, hcont, htrack, hctrl _ _ (hkeeps _ _ hstarted), hactive, hother⟩
  rw [e, htrailer, offerAll_append, ← hwindow]
  rfl

end Sys2Proof.Machine

open Sys2Proof Sys2Proof.Machine

/-- Settles O16: the checks pass on the state that the frame leaves, and every block is started there. -/
theorem startEntersRun : Obligations.StartEntersRun := by
  unfold Obligations.StartEntersRun
  intro f s h hl hc
  obtain ⟨lp, ⟨hm, -⟩, e⟩ := takeRequest_answers h.ready (show f.len.toNat = 0 by rw [hl]; rfl) reqStart (kind := 9)
  obtain ⟨hnotices, -, htl, -⟩ := hm.fields
  have hcheck : startChecks { s with lp := lp } = none := (startChecks_congr (s := s) ⟨rfl, rfl, rfl, rfl, rfl⟩).trans hc
  obtain ⟨run, vo, ft, hpart, hcont, htrack, ⟨hlow, hhold, hchan⟩, hactive, hother⟩ := startPart_eq hcheck
  have ha : reqStart f { s with lp := lp } = ⟨.ok, [], startPart { s with lp := lp }⟩ := by
    unfold reqStart
    rw [if_neg (show ¬({ s with lp := lp } : State).inRun = true from ne_true_of_eq_false h.2), hcheck]
  rw [ha, hpart, roleValueOr0_eq] at e
  dsimp only at e
  rw [settle_of_zero (by exact h.1)] at e
  refine ⟨_, congrArg Host.Outcome.next e, rfl, rfl, rfl, h.1, rfl, ?_, ?_, rfl, hcont, htrack, rfl, hlow, hhold, hchan, rfl, rfl,
    rfl, rfl, rfl, rfl, rfl, rfl, rfl, rfl, rfl, rfl, rfl, rfl, rfl, rfl, rfl, rfl, hactive, hother, ?_⟩
  · exact congrArg LinkPort.link (offerAll_posted _ _)
  · refine (congrArg LinkPort.supervision (offerAll_posted _ _)).trans ?_
    dsimp only
    rw [htl, Nat.mul_comm]
  · refine offerAll_notices ?_ _
    exact hnotices
end

section
/-! O52: the pulse capture. -/

namespace Sys2Proof.Machine

open Sys2Proof

/-- An edge of an input without calibration changes nothing (R61). -/
theorem exec_pulseEdge_uncalibrated {p : PulseIn} {s : State} (hz : s.undelivered = 0)
    (hc : (s.mu.pulse[pulseIdx p]).calibrated = false) : exec (.pulseEdge p) s = .next s :=
  event_idle hc hz

/-- An edge of a calibrated input changes its capture and nothing else (R62). -/
theorem exec_pulseEdge_calibrated {p : PulseIn} {s : State} (hz : s.undelivered = 0)
    (hc : (s.mu.pulse[pulseIdx p]).calibrated = true) :
    exec (.pulseEdge p) s = .next (modPulse (pulseIdx p) (pulseEdgeAt s.time) s) :=
  event_acts hc hz

/-- The first edge after a stop starts the capture (R62). -/
theorem pulseEdgeAt_stopped {q : Pulse} (t : Nat) (h : q.state = .stopped) :
    pulseEdgeAt t q = { q with state := .firstEdge, lastEdge := t, gap := some (t + 400000) } := by
  unfold pulseEdgeAt
  rw [h]
  rfl

/-- Every further edge measures the period since the last (R62). -/
theorem pulseEdgeAt_capturing {q : Pulse} (t : Nat) (h : q.state ≠ .stopped) :
    pulseEdgeAt t q = { q with
      state := .running, lastEdge := t, gap := some (t + 400000), period := max 1 (min 400000 (t - q.lastEdge)) } := by
  unfold pulseEdgeAt
  split
  · contradiction
  all_goals rfl

/-- The expiry of a gap timer stops its input (R62). -/
theorem exec_pulseGapExpiry {p : PulseIn} {s : State} (hz : s.undelivered = 0)
    (hd : s.due (s.mu.pulse[pulseIdx p]).gap = true) :
    exec (.pulseGapExpiry p) s = .next (modPulse (pulseIdx p) pulseStopped s) :=
  event_acts hd hz

end Sys2Proof.Machine

open Sys2Proof Sys2Proof.Machine

/-- Settles O52: an edge by the calibration of its input and by the state of its capture, and the gap's expiry. -/
theorem pulseEdgesMeasurePeriods : Obligations.PulseEdgesMeasurePeriods := by
  unfold Obligations.PulseEdgesMeasurePeriods
  intro p s hz i q put
  refine ⟨exec_pulseEdge_uncalibrated hz, fun hc hs => ?_, fun hc hs => ?_, exec_pulseGapExpiry hz⟩
  · rw [exec_pulseEdge_calibrated hz hc, modPulse, pulseEdgeAt_stopped s.time hs]
  · rw [exec_pulseEdge_calibrated hz hc, modPulse, pulseEdgeAt_capturing s.time hs]
end

section
/-! O39: the fast overload comparator and the shock of the hitch. -/

namespace Sys2Proof.Machine

open Sys2Proof

/-- The comparator after a sample, with its count and the samples still to be ignored as given (R46, R48). -/
def sampled (f : FastComp) (n i : Nat) : FastComp := { f with count := n, ignored := i, sampleDue := f.sampleDue + 250 }

/-- A sample lies inside both windows with its draft above the threshold (R46). -/
abbrev ShockAbove (c : DraftCfg) (negative : Bool) (l r : Int) : Prop :=
  (c.leftLow ≤ l ∧ l ≤ c.leftHigh) ∧ (c.rightLow ≤ r ∧ r ≤ c.rightHigh)
    ∧ c.dShock < (max (-6000) (min 6000 (if negative then -l + -r else l + r))).natAbs

theorem fastCount_eq (c : DraftCfg) (negative : Bool) (l r : Int) (count : Nat) :
    fastCount c negative l r count = if ShockAbove c negative l r then count + 1 else 0 := by
  refine if_congr ?_ rfl rfl
  simp only [DraftCfg.leftIn, DraftCfg.rightIn, inRangeI, Bool.and_eq_true, decide_eq_true_eq, and_assoc]
  rfl

/-- A sample after a reversal is ignored (R48). -/
theorem fastSample_ignored (l r : Int) {s : State} (h : 0 < s.mu.foc.ignored) : fastSample l r s =
    { s with mu := { s.mu with foc := sampled s.mu.foc s.mu.foc.count (s.mu.foc.ignored - 1) } } := by
  unfold fastSample
  rw [if_pos h]
  rfl

section
variable {l r : Int} {n : Nat} {s : State} (h : s.mu.foc.ignored = 0)
  (hn : fastCount s.mu.cfg s.mu.dc.negative l r s.mu.foc.count = n)
include h hn

/-- A sample short of the Nth in a row is counted (R46). -/
theorem fastSample_counts (hlt : n < s.mu.cfg.nShock) : fastSample l r s =
    { s with mu := { s.mu with foc := sampled s.mu.foc n 0 } } := by
  unfold fastSample
  dsimp only
  rw [if_neg (by simp [h]), hn, if_neg (Nat.not_le.2 hlt), ← h]
  rfl

/-- The Nth sample in a row is a shock, and the count begins again (R46, R47). -/
theorem fastSample_shocks (hle : s.mu.cfg.nShock ≤ n) : fastSample l r s =
    hcShock { s with mu := { s.mu with foc := sampled s.mu.foc 0 0 } } := by
  unfold fastSample
  dsimp only
  rw [if_neg (by simp [h]), hn, if_pos hle, ← h]
  rfl

end

/-- FAST_SAMPLE at or after its moment (R46). -/
theorem exec_fastSample {l r : BitVec 13} {s : State} (hz : s.undelivered = 0) (hr : s.mu.foc.running = true)
    (hd : s.mu.foc.sampleDue ≤ s.time) : exec (.fastSample l r) s = .next (fastSample l.toInt r.toInt s) :=
  event_acts (by simp [hr, State.due, hd]) (by simpa using hz)

/-- A shock in SHOCK restarts its timer (R165). -/
theorem hcShock_again {s : State} (h : s.hc.state = .shock) : hcShock s =
    { s with hc := { s.hc with shockTimer := some (s.time + s.hc.cfg.tShock * 1000) } } := by
  unfold hcShock
  rw [h]
  rfl

/-- A shock outside CONTROL and SHOCK is ignored (R165). -/
theorem hcShock_ignored {s : State} (h1 : s.hc.state ≠ .control) (h2 : s.hc.state ≠ .shock) : hcShock s = s := by
  unfold hcShock
  split
  · contradiction
  · contradiction
  all_goals rfl

/-- The hitch record that a shock in CONTROL leaves at time `t`, with RAISE commanded as given (R153, R165). -/
def shockedFromControl (t raise : Nat) (h : Hitch) : Hitch :=
  { h with
    prev := .control, state := .shock, changeTime := t, ret := .lockedOut, stall := none
    shockTimer := some (t + h.cfg.tShock * 1000), lowerCmd := 0, raiseCmd := raise }

/-- A shock in CONTROL: the change to SHOCK, its timer, RAISE up to the upper limit and the two notices (R153, R165). -/
theorem hcShock_control {s : State} (h : s.hc.state = .control) :
    let raise := if s.hc.pos < upperLimit s then s.hc.cfg.vMax else 0
    ∃ vo, HitchChans raise 0 vo s ∧ hcShock s = { s with
      vo := vo
      lp := offerAll [noticeOf s .hitchState 0 .hc 4 1, noticeOf s .hitchShock 1 .hc s.hc.pos 0] s.lp
      hc := shockedFromControl s.time raise s.hc } := by
  intro raise
  obtain ⟨vo, hv, e⟩ := hcChange_eq .shock .lockedOut s
  simp only [hcEnter, h, reduceCtorEq, or_true, true_and, false_and, or_false, and_true, if_false,
    if_true, decide_false, Bool.or_false, ne_eq, not_false_eq_true] at hv e
  refine ⟨vo, hv, ?_⟩
  unfold hcShock
  simp only [h, e]
  rfl

/-- Both hitch channels at 0, every other command as it was (R153). -/
theorem HitchChans.closed {vo : ValveOut} {s : State} (h : HitchChans 0 0 vo s) (j : Fin 14) :
    (vo.chan[j]).command = if j = chRaise ∨ j = chLower then 0 else (s.vo.chan[j]).command := by
  split
  · rename_i hj
    rcases hj with rfl | rfl
    · exact h.raise
    · exact h.lower
  · rename_i hj
    rw [h.other j (fun x => hj (.inl x)) (fun x => hj (.inr x))]

/-- SHOCK_TIMER_EXPIRY returns to CONTROL (R166). -/
theorem exec_shockTimerExpiry {s : State} (hz : s.undelivered = 0) (hs : s.hc.state = .shock)
    (hd : s.due s.hc.shockTimer = true) : exec .shockTimerExpiry s = .next (hcChange .control .lockedOut s) :=
  event_acts (by simp [hs, hd]) (by simpa using hz)

end Sys2Proof.Machine

open Sys2Proof Sys2Proof.Machine

/-- Settles O39: a sample by its count, a shock by the state of the hitch, and the return of the timer to CONTROL. -/
theorem shocksRaiseAndReturn : Obligations.ShocksRaiseAndReturn := by
  unfold Obligations.ShocksRaiseAndReturn
  refine ⟨fun l r s hz hr hd => ?_, fun s hz hs hd => ?_⟩
  · intro c sum above n foc put timer go
    have hgo : go = .next (fastSample l.toInt r.toInt s) := exec_fastSample hz hr hd
    have hn : fastCount s.mu.cfg s.mu.dc.negative l.toInt r.toInt s.mu.foc.count = n := fastCount_eq _ _ _ _ _
    rw [hgo]
    refine ⟨fun h => ?_, fun h hlt => ?_, fun h hle h1 h2 => ?_, fun h hle h1 => ?_, fun h hle h1 => ?_⟩
    · rw [fastSample_ignored _ _ h]; rfl
    · rw [fastSample_counts h hn hlt]; rfl
    · exact congrArg Host.Outcome.next ((fastSample_shocks h hn hle).trans (hcShock_ignored h1 h2))
    · exact congrArg Host.Outcome.next ((fastSample_shocks h hn hle).trans (hcShock_again h1))
    · obtain ⟨vo, hv, e⟩ := hcShock_control (s := put (foc 0 0)) h1
      refine ⟨_, congrArg Host.Outcome.next ((fastSample_shocks h hn hle).trans e), rfl, rfl, hv.lower, hv.raise, hv.other, rfl⟩
  · obtain ⟨vo, hv, e⟩ := hcChange_rest (new := .control) (by simp) .lockedOut s
    refine ⟨_, (exec_shockTimerExpiry hz hs hd).trans (congrArg Host.Outcome.next e), rfl, ?_, ?_, hv.closed⟩
    · simp [settledIn, hcEnter, hs]
    · rw [hs]; rfl
end

section
/-! SUPPORT. Reports of the fault table written out entry by entry (R197, R198), and the first and the last of the numbered steps of a
scan (R50, R55). -/

namespace Sys2Proof.Machine

open Sys2Proof

/-! ### Reports of the fault table -/

theorem entry_set_same (ft : Vector FaultEntry 47) (i : Fin 47) (e : FaultEntry) : (ft.set i e)[i] = e := by simp

theorem entry_set_other (ft : Vector FaultEntry 47) {i j : Fin 47} (h : i ≠ j) (e : FaultEntry) : (ft.set i e)[j] = ft[j] :=
  Vector.getElem_set_ne i.isLt j.isLt fun x => h (Fin.ext x)

theorem entry_set_self (ft : Vector FaultEntry 47) (i : Fin 47) : ft.set i ft[i] = ft := by simp

/-- An entry after a start report at time `t` (R197). -/
def startedAt (t : Nat) (d : Nat) (e : FaultEntry) : FaultEntry :=
  match e.state with
  | .active => e
  | .clear => { state := .active, count := 1, first := t, last := t, detail := BitVec.ofNat 16 d }
  | .latched => { e with state := .active, count := min 255 (e.count + 1), last := t, detail := BitVec.ofNat 16 d }

/-- An entry after an end report at time `t` (R198). -/
def endedAt (t : Nat) (e : FaultEntry) : FaultEntry :=
  if e.state = .active then { e with state := .latched, last := t } else e

theorem startedAt_active (t d : Nat) (e : FaultEntry) : (startedAt t d e).state = .active := by
  unfold startedAt
  split
  · assumption
  all_goals rfl

theorem startedAt_detail (t d : Nat) {e : FaultEntry} (h : e.state ≠ .active) : (startedAt t d e).detail = BitVec.ofNat 16 d := by
  unfold startedAt
  split
  · contradiction
  all_goals rfl

theorem endedAt_clear (t : Nat) (e : FaultEntry) : (endedAt t e).state = .clear ↔ e.state = .clear := by
  unfold endedAt
  split
  · rename_i h
    simp [h]
  · rfl

/-- A start report of an entry that caps no gear window writes this entry and posts its notice (R197). -/
theorem ftStart_entry {i : Fin 47} (h : isTrailerEntry i = false) (d : Nat) (s : State) : ftStart i d s = { s with
    lp := offerAll (raisedNote s i d) s.lp, ft := s.ft.set i (startedAt s.time d s.ft[i]) } := by
  rw [ftStart_quiet_eq i d s h]
  congr 1
  unfold ftStart
  dsimp only
  split <;> rename_i hs
  · rw [startedAt, hs]
    exact (entry_set_self _ _).symm
  · rw [ftTell_quiet i _ h, startedAt, hs]; rfl
  · rw [ftTell_quiet i _ h, startedAt, hs]; rfl

/-- An end report of an entry that caps no gear window writes this entry and posts its notice (R198). -/
theorem ftEnd_entry {i : Fin 47} (h : isTrailerEntry i = false) (s : State) : ftEnd i s = { s with
    lp := offerAll (endedNote s i) s.lp, ft := s.ft.set i (endedAt s.time s.ft[i]) } := by
  rw [ftEnd_quiet_eq i s h]
  congr 1
  unfold endedAt
  split
  · rfl
  · rw [entry_set_self]

/-! ### Numbered steps -/

/-- The first of an ordered list that meets a test. -/
theorem find?_of_least {α : Type} {R : α → α → Prop} {l : List α} (hl : l.Pairwise R) {p : α → Bool} {a : α} (ha : a ∈ l)
    (hp : p a = true) (hb : ∀ b, R b a → p b = false) : l.find? p = some a := by
  induction l with
  | nil => cases ha
  | cons x l ih =>
    obtain ⟨hx, hl⟩ := List.pairwise_cons.1 hl
    rcases List.mem_cons.1 ha with rfl | ha
    · exact List.find?_cons_of_pos hp
    · rw [List.find?_cons_of_neg (by rw [hb x (hx a ha)]; decide)]
      exact ih hl ha

/-- Step `i` is enabled and no step before it is, so that a run starts with it (R50). -/
abbrev FirstEnabled (steps : Vector ScanStep 16) (i : Fin 16) : Prop :=
  (steps[i]).enabled = true ∧ ∀ j : Fin 16, j < i → (steps[j]).enabled = false

/-- The first enabled step numbered `n` or more (R50). -/
theorem nextEnabled_eq {steps : Vector ScanStep 16} {n : Nat} {i : Fin 16} (hn : n ≤ i.val) (hi : (steps[i]).enabled = true)
    (hb : ∀ j : Fin 16, n ≤ j.val → j < i → (steps[j]).enabled = false) : nextEnabled steps n = some i := by
  refine find?_of_least (List.pairwise_lt_finRange 16) (List.mem_finRange i) (by rw [hi, Bool.and_true]; exact decide_eq_true hn) fun j hj => ?_
  by_cases h : n ≤ j.val
  · rw [hb j h hj, Bool.and_false]
  · simp [h]

theorem nextEnabled_first {steps : Vector ScanStep 16} {i : Fin 16} (h : FirstEnabled steps i) : nextEnabled steps 0 = some i :=
  nextEnabled_eq (Nat.zero_le _) h.1 fun j _ hj => h.2 j hj

theorem nextEnabled_none {steps : Vector ScanStep 16} {n : Nat} (h : ∀ j : Fin 16, n ≤ j.val → (steps[j]).enabled = false) :
    nextEnabled steps n = none := by
  refine List.find?_eq_none.2 fun j _ => ?_
  by_cases hj : n ≤ j.val
  · simp only [h j hj, Bool.and_false, Bool.false_eq_true, not_false_eq_true]
  · simp [hj]

/-- The highest-numbered enabled step that carries a role (R55). -/
theorem roleStep_eq {steps : Vector ScanStep 16} {r : Nat} {i : Fin 16} (hi : (steps[i]).enabled = true ∧ (steps[i]).role = r)
    (hb : ∀ j : Fin 16, i < j → ¬((steps[j]).enabled = true ∧ (steps[j]).role = r)) : roleStep steps r = some i := by
  refine find?_of_least (R := fun a b => b < a) (List.pairwise_reverse.2 (List.pairwise_lt_finRange 16)) (by simp)
    (by simpa using hi) fun j hj => ?_
  have := hb j hj
  simpa using this

theorem roleStep_none {steps : Vector ScanStep 16} {r : Nat}
    (h : ∀ i : Fin 16, ¬((steps[i]).enabled = true ∧ (steps[i]).role = r)) : roleStep steps r = none := by
  refine List.find?_eq_none.2 fun i _ => ?_
  have := h i
  simpa using this

/-! ### The start of a run -/

/-- The run that starts at time `t` with step `i`, a delay of 0 over at once (R50). -/
def freshRun (m : Measure) (i : Fin 16) (t : Nat) : ScanRun :=
  ⟨m.steps, m.muxDelay, i, decide (m.muxDelay = 0), t, .replicate 16 none⟩

/-- A run starts with the first enabled step, and writes nothing else (R50). -/
theorem startRun_first {s : State} {i : Fin 16} (h : FirstEnabled s.mu.steps i) :
    startRun s = { s with mu := { s.mu with run := some (freshRun s.mu i s.time) } } := by
  unfold startRun
  rw [nextEnabled_first h]
  rfl

end Sys2Proof.Machine
end

section
/-! SUPPORT. What a completed scan run publishes: the entry of each role, what the MU keeps for it, and the report of its range (R55, R57,
R58, R59). -/

namespace Sys2Proof.Machine

open Sys2Proof

/-! ### A role after a completed run -/

/-- The range of a role (R57). -/
theorem roleRange_eq (r : Fin 16) : (roleLow r, roleHigh r) =
    if r.val ≤ 8 then (0, 250) else if r.val = 9 then (0, 300) else if r.val = 14 then (0, 1000)
    else if r.val = 15 then (-600, 600) else (0, 2000) := by
  revert r
  decide

/-- The scaled value of a role, clamped to its range (R57). -/
theorem scaled_eq (r : Fin 16) (sc : RoleScale) (n : Nat) :
    let bounds : Int × Int := if r.val ≤ 8 then (0, 250) else if r.val = 9 then (0, 300) else if r.val = 14 then (0, 1000)
      else if r.val = 15 then (-600, 600) else (0, 2000)
    scaled r sc n = max bounds.1 (min bounds.2 ((((n : Int) - sc.offset) * sc.gain).tdiv 1024)) := by
  intro bounds
  rw [show bounds = (roleLow r, roleHigh r) from (roleRange_eq r).symm]
  rfl

/-- The count lies inside the converter's range (R58). -/
abbrev CountOk (n : Nat) : Prop := 80 ≤ n ∧ n ≤ 4015

theorem rangeEndOf_ok {n : Nat} (h : CountOk n) : rangeEndOf n = none := by
  unfold rangeEndOf
  rw [if_neg (by omega), if_neg (by omega)]

theorem rangeEndOf_out {n : Nat} (h : ¬CountOk n) : rangeEndOf n = some (if n < 80 then .low else .high) := by
  unfold rangeEndOf
  split
  · rfl
  · rw [if_pos (by omega)]

/-- A valid count: the scaled value, held from now on (R55, R58). -/
theorem roleAfter_valid (r : Fin 16) (sc : RoleScale) (t : Nat) {n : Nat} (m : RoleMem) (h : CountOk n) :
    roleAfter r sc t (some n) m = (⟨true, scaled r sc n, true, 0⟩, ⟨some (scaled r sc n, t), none, 0⟩) := by
  simp only [roleAfter, rangeEndOf_ok h]

/-- What the MU keeps for a role after an invalid count `n` (R58, R59). -/
def missed (n : Nat) (m : RoleMem) : RoleMem :=
  ⟨m.held, some (if n < 80 then .low else .high), min 255 (m.invalid + 1)⟩

/-- The entry of a role after an invalid count: the held value with its age (R58). -/
def heldEntry (t : Nat) (m : RoleMem) : RoleEntry :=
  match m.held with
  | some (v, t0) => ⟨true, v, false, min 65535 ((t - t0) / 1000)⟩
  | none => ⟨true, 0, false, 65535⟩

theorem heldEntry_flags (t : Nat) (m : RoleMem) : (heldEntry t m).present = true ∧ (heldEntry t m).valid = false := by
  unfold heldEntry
  split <;> exact ⟨rfl, rfl⟩

/-- An invalid count: the held value (R58, R59). -/
theorem roleAfter_missed (r : Fin 16) (sc : RoleScale) (t : Nat) {n : Nat} (m : RoleMem) (h : ¬CountOk n) :
    roleAfter r sc t (some n) m = (heldEntry t m, missed n m) := by
  simp only [roleAfter, rangeEndOf_out h, heldEntry, missed]
  cases hm : m.held <;> rfl

/-! ### The report of a role's range -/

/-- The SENSOR_RANGE entry of a role after a completed run at time `t` that gave the role `e`, after `n` invalid runs (R59). -/
def rangeAt (t : Nat) (e : RoleEntry) (n d : Nat) (f : FaultEntry) : FaultEntry :=
  if e.present = false then f
  else if e.valid = true then (if 3 ≤ n then endedAt t f else f)
  else if n = 2 then startedAt t d f else f

/-- The notices of that report (R59, R197, R198). -/
def rangeNotes (s : State) (r : Fin 16) (e : RoleEntry) (n d : Nat) : List Notice :=
  if e.present = false then []
  else if e.valid = true then (if 3 ≤ n then endedNote s (fSensorRange r) else [])
  else if n = 2 then raisedNote s (fSensorRange r) d else []

/-- Which end of the converter's range the MU keeps for a role, coded (R58). -/
def RoleMem.endCode (m : RoleMem) : Nat := (m.rangeEnd.map RangeEnd.code).getD 0

theorem roleReport_eq (r : Fin 16) (e : RoleEntry) (old new : RoleMem) (s : State) : roleReport r e old new s = { s with
    lp := offerAll (rangeNotes s r e old.invalid new.endCode) s.lp
    ft := s.ft.set (fSensorRange r) (rangeAt s.time e old.invalid new.endCode s.ft[fSensorRange r]) } := by
  have keep : s = { s with lp := offerAll [] s.lp, ft := s.ft.set (fSensorRange r) s.ft[fSensorRange r] } := by
    rw [entry_set_self]; rfl
  unfold roleReport rangeNotes rangeAt
  cases hp : e.present with
  | false => exact keep
  | true =>
    cases hv : e.valid with
    | true =>
      by_cases hn : 3 ≤ old.invalid
      · simp only [hn, if_true, Bool.true_eq_false, if_false, ftEnd_entry (quiet_sensorRange r)]
      · simp only [hn, if_true, Bool.true_eq_false, if_false]
        exact keep
    | false =>
      by_cases hn : old.invalid = 2
      · simp only [hn, if_true, Bool.true_eq_false, Bool.false_eq_true, if_false, ftStart_entry (quiet_sensorRange r)]
        rfl
      · simp only [hn, Bool.true_eq_false, Bool.false_eq_true, if_true, if_false]
        exact keep

/-- A report of another role leaves the notices of a role as they are. -/
theorem rangeNotes_congr {s t : State} {r : Fin 16} (ht : t.time = s.time) (hf : t.ft[fSensorRange r] = s.ft[fSensorRange r])
    (e : RoleEntry) (n d : Nat) : rangeNotes t r e n d = rangeNotes s r e n d := by
  unfold rangeNotes endedNote raisedNote noticeOf
  rw [ht, hf]

/-- The reports of the roles `l`, one after the other (R59). -/
theorem foldl_roleReport (x : Fin 16 → RoleEntry × RoleMem) (old : Fin 16 → RoleMem) {l : List (Fin 16)} (hl : l.Nodup) (s : State) :
    let t := l.foldl (fun s r => roleReport r (x r).1 (old r) (x r).2 s) s
    t = { s with
        lp := offerAll (l.flatMap fun r => rangeNotes s r (x r).1 (old r).invalid (x r).2.endCode) s.lp, ft := t.ft }
      ∧ (∀ r ∈ l, t.ft[fSensorRange r] = rangeAt s.time (x r).1 (old r).invalid (x r).2.endCode s.ft[fSensorRange r])
      ∧ ∀ i : Fin 47, (∀ r ∈ l, fSensorRange r ≠ i) → t.ft[i] = s.ft[i] := by
  induction l generalizing s with
  | nil => exact ⟨rfl, fun r h => absurd h List.not_mem_nil, fun _ _ => rfl⟩
  | cons a l ih =>
    obtain ⟨ha, hl⟩ := List.nodup_cons.1 hl
    obtain ⟨h1, h2, h3⟩ := ih hl (roleReport a (x a).1 (old a) (x a).2 s)
    rw [List.foldl_cons]
    rw [roleReport_eq] at h1 h2 h3 ⊢
    have other : ∀ r ∈ l, ∀ e, (s.ft.set (fSensorRange a) e)[fSensorRange r] = s.ft[fSensorRange r] := fun r hr e =>
      entry_set_other _ (fSensorRange_ne fun x : a = r => ha (x ▸ hr)) e
    refine ⟨?_, fun r hr => ?_, fun i hi => ?_⟩
    · refine h1.trans ?_
      dsimp only
      rw [List.flatMap_cons, offerAll_append]
      congr 2
      refine List.flatMap_congr fun r hr => ?_
      refine rangeNotes_congr ?_ ?_ _ _ _
      · rfl
      · exact other r hr _
    · rcases List.mem_cons.1 hr with rfl | hr
      · rw [h3 _ fun b hb => fSensorRange_ne fun x : b = r => ha (x ▸ hb), entry_set_same]
      · rw [h2 r hr, other r hr]
    · rw [h3 i fun r hr => hi r (List.mem_cons_of_mem a hr), entry_set_other _ (hi a List.mem_cons_self)]

/-! ### The snapshot -/

/-- What a completed run leaves of a role (R55, R58). -/
def roleResult (run : ScanRun) (s : State) (r : Fin 16) : RoleEntry × RoleMem :=
  roleAfter r s.mu.scales[r] s.time (roleCount run r) s.mu.mem[r]

/-- The MU as a completed run leaves it (R50, R55, R56). -/
def snapshotTaken (run : ScanRun) (s : State) : Measure :=
  { s.mu with
    run := none, runCounter := (s.mu.runCounter + 1) % 65536
    snapshot := ⟨(s.mu.runCounter + 1) % 65536, s.time, .ofFn fun r => (roleResult run s r).1⟩
    mem := .ofFn fun r => (roleResult run s r).2 }

/-- The notices of the sixteen roles, in role order (R59). -/
def snapshotNotes (run : ScanRun) (s : State) : List Notice :=
  (List.finRange 16).flatMap fun r =>
    rangeNotes s r (roleResult run s r).1 (s.mu.mem[r]).invalid (roleResult run s r).2.endCode

/-- The SENSOR_RANGE entries in `ft` are those of `s` with the reports of a completed run made, and no other entry differs (R59). -/
def RangesReported (run : ScanRun) (s : State) (ft : Vector FaultEntry 47) : Prop :=
  (∀ r : Fin 16, ft[fSensorRange r] = rangeAt s.time (roleResult run s r).1 (s.mu.mem[r]).invalid
      (roleResult run s r).2.endCode s.ft[fSensorRange r])
    ∧ ∀ i : Fin 47, i.val < 2 ∨ 17 < i.val → ft[i] = s.ft[i]

/-- A snapshot is filed, and the ranges of its roles are reported (R55, R56, R59). -/
theorem publishSnapshot_eq (run : ScanRun) (s : State) : ∃ ft, RangesReported run s ft ∧ publishSnapshot run s =
    { s with mu := snapshotTaken run s, lp := offerAll (snapshotNotes run s) s.lp, ft := ft } := by
  let after : Vector (RoleEntry × RoleMem) 16 := .ofFn (roleResult run s)
  have hafter : ∀ r : Fin 16, after[r] = roleResult run s r := fun r => by simp [after]
  have hentries : after.map Prod.fst = .ofFn fun r => (roleResult run s r).1 := Vector.map_ofFn ..
  have hmem : after.map Prod.snd = .ofFn fun r => (roleResult run s r).2 := Vector.map_ofFn ..
  have e : publishSnapshot run s = (List.finRange 16).foldl
      (fun u r => roleReport r (after[r]).1 s.mu.mem[r] (after[r]).2 u)
      { s with mu := { s.mu with
        run := none, runCounter := (s.mu.runCounter + 1) % Config.wrap16
        snapshot := ⟨(s.mu.runCounter + 1) % Config.wrap16, s.time, after.map Prod.fst⟩, mem := after.map Prod.snd } } := rfl
  obtain ⟨h1, h2, h3⟩ := foldl_roleReport (roleResult run s) (fun r => s.mu.mem[r]) (List.nodup_finRange 16)
    { s with mu := snapshotTaken run s }
  rw [e, hentries, hmem]
  simp only [hafter]
  refine ⟨_, ⟨fun r => h2 r (List.mem_finRange r), fun i hi => h3 i fun r _ x => ?_⟩, h1⟩
  subst x
  have := r.isLt
  simp only [fSensorRange] at hi
  omega

/-- A role that no enabled step carries (R55, R58). -/
theorem roleResult_absent {run : ScanRun} (s : State) {r : Fin 16}
    (h : ∀ i : Fin 16, ¬((run.steps[i]).enabled = true ∧ (run.steps[i]).role = r.val)) :
    roleResult run s r = ({}, ⟨none, none, (s.mu.mem[r]).invalid⟩) := by
  unfold roleResult roleCount
  rw [roleStep_none h]
  rfl

section
variable {run : ScanRun} {r i : Fin 16} (s : State) (hi : (run.steps[i]).enabled = true ∧ (run.steps[i]).role = r.val)
  (hb : ∀ j : Fin 16, i < j → ¬((run.steps[j]).enabled = true ∧ (run.steps[j]).role = r.val))
include hi hb

/-- A role is filed by its highest-numbered enabled step (R55). -/
theorem roleResult_carried :
    roleResult run s r = roleAfter r s.mu.scales[r] s.time (some ((run.counts[i]).getD 0)) s.mu.mem[r] := by
  unfold roleResult roleCount
  rw [roleStep_eq hi hb]

theorem roleResult_valid (h : CountOk ((run.counts[i]).getD 0)) : roleResult run s r =
    let v := scaled r s.mu.scales[r] ((run.counts[i]).getD 0)
    (⟨true, v, true, 0⟩, ⟨some (v, s.time), none, 0⟩) := by
  rw [roleResult_carried s hi hb, roleAfter_valid _ _ _ _ h]

theorem roleResult_missed (h : ¬CountOk ((run.counts[i]).getD 0)) :
    roleResult run s r = (heldEntry s.time s.mu.mem[r], missed ((run.counts[i]).getD 0) s.mu.mem[r]) := by
  rw [roleResult_carried s hi hb, roleAfter_missed _ _ _ _ h]

end

end Sys2Proof.Machine
end

section
/-! O19: SCAN_START and SCAN_STOP. -/

namespace Sys2Proof.Machine

open Sys2Proof

/-- In CONFIG a publication ends a pending stop and posts SCAN_DONE (R52, R53). -/
theorem afterPublication_config {s : State} (h : s.inRun = false) :
    afterPublication s = post .scanDone s.mu.runCounter 0 { s with mu := { s.mu with stopPending := false } } :=
  if_neg (by rw [h]; decide)

/-- A run completed in CONFIG (R50, R52, R55). -/
theorem completeRun_config {run : ScanRun} {s : State} (h : s.inRun = false) : ∃ ft, RangesReported run s ft ∧
    completeRun run s = { s with
      mu := { snapshotTaken run s with stopPending := false }
      lp := offerAll (snapshotNotes run s ++ [noticeOf s .scanDone 0 .mu ((s.mu.runCounter + 1) % 65536) 0]) s.lp, ft := ft } := by
  obtain ⟨ft, hft, e⟩ := publishSnapshot_eq run s
  refine ⟨ft, hft, ?_⟩
  unfold completeRun
  rw [e, offerAll_append]
  exact afterPublication_config h

/-- A table without an enabled step carries no role, so that its snapshot is empty (R50, R55). -/
theorem snapshotTaken_empty {run : ScanRun} {s : State} (h : ∀ j : Fin 16, (run.steps[j]).enabled = false) :
    (snapshotTaken run s).snapshot = ⟨(s.mu.runCounter + 1) % 65536, s.time, .replicate 16 {}⟩ := by
  have hr : ∀ r : Fin 16, (roleResult run s r).1 = {} := fun r => by
    rw [roleResult_absent s fun i hi => by rw [h i] at hi; exact Bool.noConfusion hi.1]
  have he : (Vector.ofFn fun r => (roleResult run s r).1) = Vector.replicate 16 {} := by
    simp only [hr]
    rfl
  simp only [snapshotTaken, he]

/-- With no enabled step a run completes as it starts (R50). -/
theorem startRun_none {s : State} (h : ∀ j : Fin 16, (s.mu.steps[j]).enabled = false) :
    startRun s = completeRun ⟨s.mu.steps, s.mu.muxDelay, 0, false, s.time, .replicate 16 none⟩ s := by
  unfold startRun
  rw [nextEnabled_none fun j _ => h j]

/-- The part before the run that SCAN_START starts: no stop pending and no run in progress (R52). -/
def scanCleared (s : State) : State := { s with mu := { s.mu with stopPending := false, run := none } }

/-- SCAN_START in CONFIG (R52). -/
theorem reqScanStart_config {s : State} (h : s.inRun = false) (f : Request) : reqScanStart f s =
    ⟨.ok, beBool s.mu.run.isSome ++ be16 ((s.mu.runCounter + 1) % 65536), startRun (scanCleared s)⟩ := by
  unfold reqScanStart
  rw [configOnly_of_config h, if_pos rfl]
  rfl

/-- SCAN_STOP in CONFIG (R53). -/
theorem reqScanStop_config {s : State} (h : s.inRun = false) (f : Request) : reqScanStop f s =
    ⟨.ok, beBool s.mu.run.isSome, { s with mu := { s.mu with stopPending := s.mu.run.isSome || s.mu.stopPending } }⟩ := by
  unfold reqScanStop
  rw [configOnly_of_config h, if_pos rfl]
  cases s.mu.run <;> rfl

end Sys2Proof.Machine

open Sys2Proof Sys2Proof.Machine

/-- Settles O19: the run that starts with the first enabled step, the run that completes at once, and the stop. -/
theorem scanStartAndStopRunTheSequencer : Obligations.ScanStartAndStopRunTheSequencer := by
  unfold Obligations.ScanStartAndStopRunTheSequencer
  refine ⟨fun f s h hl => ?_, fun f s h hl => ?_⟩
  · intro body
    have hlen : f.len.toNat = 0 := by rw [hl]; rfl
    refine ⟨fun i hi hb => ?_, fun hn => ?_⟩
    · refine answers_kept (c := .scanStart f) rfl rfl h.ready hlen ?_ ?_ fun lp => ?_
      · exact h.1
      · rfl
      rw [reqScanStart_config (s := { s with lp := lp }) h.2, startRun_first (s := scanCleared { s with lp := lp }) ⟨hi, hb⟩]
      rfl
    · obtain ⟨lp, -, e⟩ := takeRequest_answers h.ready hlen reqScanStart (kind := 16)
      obtain ⟨ft, -, hrun⟩ := completeRun_config (s := scanCleared { s with lp := lp })
        (run := ⟨s.mu.steps, s.mu.muxDelay, 0, false, s.time, .replicate 16 none⟩) h.2
      have hsnap := snapshotTaken_empty (s := scanCleared { s with lp := lp })
        (run := ⟨s.mu.steps, s.mu.muxDelay, 0, false, s.time, .replicate 16 none⟩) hn
      rw [reqScanStart_config (s := { s with lp := lp }) h.2] at e
      dsimp only at e
      rw [startRun_none (s := scanCleared { s with lp := lp }) hn] at e
      dsimp only [scanCleared] at e hrun hsnap
      rw [hrun, settle_of_zero (by exact h.1)] at e
      exact ⟨_, congrArg Host.Outcome.next e, rfl, rfl, rfl, hsnap, rfl⟩
  · refine answers_kept (c := .scanStop f) rfl rfl h.ready (by rw [hl]; rfl) ?_ ?_ fun lp => ?_
    · exact h.1
    · rfl
    rw [reqScanStop_config (s := { s with lp := lp }) h.2]
end

section
/-! SUPPORT. The events of a scan run: the end of a step's delay, of a conversion and of the last one, and the run that follows (R50, R51,
R54, R55, R60). -/

namespace Sys2Proof.Machine

open Sys2Proof

/-! ### The next run -/

/-- Runs follow each other: CONTINUOUS in RUN (R51). -/
abbrev RunsFollow (s : State) : Prop := s.inRun = true ∧ s.mu.scanMode = .continuous

/-- A table with an enabled step has a first one. -/
theorem exists_firstEnabled {steps : Vector ScanStep 16} (h : ∃ i : Fin 16, (steps[i]).enabled = true) : ∃ i, FirstEnabled steps i := by
  obtain ⟨i, hi, hmin⟩ := wellFounded_lt.has_min {i : Fin 16 | (steps[i]).enabled = true} h
  exact ⟨i, hi, fun j hj => Bool.eq_false_iff.2 fun x => hmin j x hj⟩

theorem nextRun_rests {s : State} (h : ¬RunsFollow s) : nextRun s = s :=
  if_neg (by simpa using h)

theorem nextRun_first {s : State} {i : Fin 16} (h : RunsFollow s) (hi : FirstEnabled s.mu.steps i) :
    nextRun s = { s with mu := { s.mu with run := some (freshRun s.mu i s.time) } } := by
  rw [nextRun_of_continuous h.1 h.2, startRun_first hi]

/-- What follows a run that has ended, where a run that follows has a step to start with (R51). -/
theorem nextRun_eq {s : State} (hn : s.mu.run = none) (h : RunsFollow s → ∃ i : Fin 16, (s.mu.steps[i]).enabled = true) :
    ∃ next, nextRun s = { s with mu := { s.mu with run := next } } ∧ (¬RunsFollow s → next = none)
      ∧ ∀ i, RunsFollow s → FirstEnabled s.mu.steps i → next = some (freshRun s.mu i s.time) := by
  by_cases hg : RunsFollow s
  · obtain ⟨i, hi⟩ := exists_firstEnabled (h hg)
    refine ⟨_, nextRun_first hg hi, fun x => absurd hg x, fun j _ hj => ?_⟩
    rw [Option.some.inj ((nextEnabled_first hi).symm.trans (nextEnabled_first hj))]
  · refine ⟨none, ?_, fun _ => rfl, fun i x => absurd x hg⟩
    rw [nextRun_rests hg, ← hn]

/-! ### The events -/

/-- An event whose condition holds. -/
theorem event_settles {cond : Bool} {act : State → State} {s : State} (hc : cond = true) :
    event cond act s = .next (settle (act s)) := by
  unfold event
  rw [if_pos hc]

section
variable {s : State} {run : ScanRun} (hz : s.undelivered = 0) (hr : s.mu.run = some run)
include hr

include hz in
theorem exec_scanStepDelayEnd (hc : run.converting = false) (hd : run.since + run.delay * 100 ≤ s.time) :
    exec .scanStepDelayEnd s = .next (delayEnds run s) := by
  have e : onRun delayEnds s = delayEnds run s := by unfold onRun; rw [hr]
  rw [← e]
  refine event_acts (by simp [delayDue, hr, hc, State.due, hd]) ?_
  rw [e]
  exact hz

theorem convertingFor_of (hc : run.converting = true) {n : Nat} (hd : run.since + n ≤ s.time) : convertingFor s n = true := by
  simp [convertingFor, hr, hc, State.due, hd]

theorem exec_scanConversionTimeout (hc : run.converting = true) (hd : run.since + 2000 ≤ s.time) :
    exec .scanConversionTimeout s = .next (settle (nextRun (abortRun s))) :=
  event_settles (act := fun s => nextRun (abortRun s)) (convertingFor_of hr hc hd)

theorem exec_scanStepConversionEnd (raw : BitVec 12) (hc : run.converting = true) (hd : run.since + 500 ≤ s.time) :
    exec (.scanStepConversionEnd raw) s = .next (settle (stepConverted run raw.toNat s)) := by
  refine (event_settles (convertingFor_of hr hc hd)).trans ?_
  unfold onRun
  rw [hr]

end

/-- A run with the count `raw` of the step reached (R50). -/
def counted (run : ScanRun) (raw : Nat) : ScanRun := { run with counts := run.counts.set run.stepAt (some raw) }

/-- A conversion goes on to the next enabled step (R50). -/
theorem stepConverted_next {run : ScanRun} (raw : Nat) (s : State) {i : Fin 16} (hlt : run.stepAt < i)
    (hi : (run.steps[i]).enabled = true)
    (hb : ∀ j : Fin 16, run.stepAt < j → j < i → (run.steps[j]).enabled = false) :
    stepConverted run raw s = { s with mu := { s.mu with run := some (atStep (counted run raw) i s.time) } } := by
  unfold stepConverted
  dsimp only
  rw [nextEnabled_eq (n := run.stepAt.val + 1) hlt hi fun j hj => hb j hj]
  rfl

/-- The last conversion of a run completes it (R50). -/
theorem stepConverted_last {run : ScanRun} (raw : Nat) (s : State)
    (hb : ∀ j : Fin 16, run.stepAt < j → (run.steps[j]).enabled = false) :
    stepConverted run raw s = nextRun (completeRun (counted run raw) s) := by
  unfold stepConverted
  dsimp only
  rw [nextEnabled_none (n := run.stepAt.val + 1) fun j hj => hb j hj]
  rfl

/-! ### A run completed in RUN -/

/-- The part with the snapshot of a completed run filed, its reports made and the staleness timer restarted, before the jobs take
it (R55, R59, R60). -/
def snapshotReady (run : ScanRun) (s : State) (ft : Vector FaultEntry 47) : State :=
  { s with
    mu := { snapshotTaken run s with stale := some (s.time + 50000) }
    lp := offerAll (snapshotNotes run s ++ endedNote s fScanStale) s.lp
    ft := ft.set fScanStale (endedAt s.time s.ft[fScanStale]) }

/-- The VO, the HC and the TBC take a snapshot, in this order (R90, R158, R178). -/
def snapshotTold (s : State) : State := tbcOnSnapshot (hcOnSnapshot (voOnSnapshot s))

theorem snapshotTold_same (s : State) : (snapshotTold s).mu = s.mu ∧ (snapshotTold s).time = s.time ∧ (snapshotTold s).pc = s.pc
    ∧ (snapshotTold s).me = s.me := by simp [snapshotTold]

theorem completeRun_run {run : ScanRun} {s : State} (h : s.inRun = true) : ∃ ft, RangesReported run s ft ∧
    completeRun run s = snapshotTold (snapshotReady run s ft) := by
  obtain ⟨ft, hft, e⟩ := publishSnapshot_eq run s
  refine ⟨ft, hft, ?_⟩
  have hstale : ft[fScanStale] = s.ft[fScanStale] := hft.2 fScanStale (.inr (by decide))
  unfold completeRun
  rw [e]
  refine (if_pos h).trans ?_
  rw [ftEnd_entry (by decide)]
  unfold snapshotTold snapshotReady endedNote noticeOf
  rw [offerAll_append]
  dsimp only
  rw [hstale]
  rfl

/-- The MU as a completed run leaves it, in either part state (R50, R52, R53, R60). -/
theorem completeRun_mu (run : ScanRun) (s : State) : (completeRun run s).mu = { snapshotTaken run s with
    stale := if s.inRun then some (s.time + 50000) else s.mu.stale
    stopPending := if s.inRun then s.mu.stopPending else false } := by
  cases h : s.inRun with
  | true =>
    obtain ⟨ft, -, e⟩ := completeRun_run (run := run) h
    rw [e, (snapshotTold_same _).1]
    rfl
  | false =>
    obtain ⟨ft, -, e⟩ := completeRun_config (run := run) h
    rw [e]
    rfl

/-- The run that follows a completed one (R51). -/
theorem nextRun_completed (run : ScanRun) {s : State} (h : RunsFollow s → ∃ i : Fin 16, (s.mu.steps[i]).enabled = true) :
    let w := completeRun run s
    ∃ next, nextRun w = { w with mu := { w.mu with run := next } } ∧ (¬RunsFollow s → next = none)
      ∧ ∀ i, RunsFollow s → FirstEnabled s.mu.steps i → next = some (freshRun s.mu i s.time) := by
  intro w
  have hmu := completeRun_mu run s
  have hpc : w.pc = s.pc := by simp [w]
  have htime : w.time = s.time := by simp [w]
  have hsteps : w.mu.steps = s.mu.steps := by rw [hmu]; rfl
  have hg : RunsFollow w ↔ RunsFollow s := by
    unfold RunsFollow State.inRun
    rw [hpc, hmu]
    rfl
  have hfresh : ∀ i, freshRun w.mu i w.time = freshRun s.mu i s.time := fun i => by
    rw [hmu, htime]
    rfl
  obtain ⟨next, e, h1, h2⟩ := nextRun_eq (s := w) (by rw [hmu]; rfl) (by rw [hg, hsteps]; exact h)
  exact ⟨next, e, fun x => h1 fun y => x (hg.1 y), fun i x hi => (h2 i (hg.2 x) (by rw [hsteps]; exact hi)).trans (congrArg some (hfresh i))⟩

/-! ### Roles of the snapshot -/

theorem snapshotTaken_entry (run : ScanRun) (s : State) (r : Fin 16) :
    (snapshotTaken run s).snapshot.entries[r] = (roleResult run s r).1 := by simp [snapshotTaken]

theorem snapshotTaken_mem (run : ScanRun) (s : State) (r : Fin 16) :
    (snapshotTaken run s).mem[r] = (roleResult run s r).2 := by simp [snapshotTaken]

theorem rangeNotes_nil {s : State} {r : Fin 16} {e : RoleEntry} {n d t : Nat}
    (h : rangeAt t e n d s.ft[fSensorRange r] = s.ft[fSensorRange r]) : rangeNotes s r e n d = [] := by
  have hend : endedAt t s.ft[fSensorRange r] = s.ft[fSensorRange r] → endedNote s (fSensorRange r) = [] := fun h => by
    refine if_neg fun ha => ?_
    rw [endedAt, if_pos ha] at h
    have := congrArg FaultEntry.state h
    rw [ha] at this
    cases this
  have hstart : startedAt t d s.ft[fSensorRange r] = s.ft[fSensorRange r] → raisedNote s (fSensorRange r) d = [] := fun h =>
    if_pos (by rw [← h]; exact startedAt_active _ _ _)
  unfold rangeAt at h
  unfold rangeNotes
  split
  · rfl
  rw [if_neg ‹_›] at h
  split
  · rw [if_pos ‹_›] at h
    split
    · rw [if_pos ‹_›] at h
      exact hend h
    · rfl
  rw [if_neg ‹_›] at h
  split
  · rw [if_pos ‹_›] at h
    exact hstart h
  · rfl

/-- Where no entry changes nothing is reported (R197, R198). -/
theorem snapshotNotes_nil {run : ScanRun} {s : State} (h : RangesReported run s s.ft) : snapshotNotes run s = [] :=
  List.flatMap_eq_nil_iff.2 fun r _ => rangeNotes_nil (h.1 r).symm

end Sys2Proof.Machine
end

section
/-! O48: the scan runs. -/

namespace Sys2Proof.Machine

open Sys2Proof

/-- The entry of a role that a completed run carries (R55, R57, R58). -/
theorem roleResult_entry {run : ScanRun} {r i : Fin 16} (s : State)
    (hi : (run.steps[i]).enabled = true ∧ (run.steps[i]).role = r.val)
    (hb : ∀ j : Fin 16, i < j → ¬((run.steps[j]).enabled = true ∧ (run.steps[j]).role = r.val)) :
    (roleResult run s r).1 = if CountOk ((run.counts[i]).getD 0)
      then ⟨true, scaled r s.mu.scales[r] ((run.counts[i]).getD 0), true, 0⟩ else heldEntry s.time s.mu.mem[r] := by
  split
  · rw [roleResult_valid s hi hb ‹_›]
  · rw [roleResult_missed s hi hb ‹_›]

end Sys2Proof.Machine

open Sys2Proof Sys2Proof.Machine

/-- Settles O48: the events of a run one by one, and what its last conversion makes of each role. -/
theorem scanRunsFillTheSnapshot : Obligations.ScanRunsFillTheSnapshot := by
  unfold Obligations.ScanRunsFillTheSnapshot
  intro s hz run hr going first fresh
  refine ⟨exec_scanStepDelayEnd hz hr, fun hc hd hg => ?_, fun i hc hd hg hi => ?_, fun raw hc hd => ?_⟩
  · rw [exec_scanConversionTimeout hr hc hd, nextRun_rests (s := abortRun s) hg, settle_of_zero (s := abortRun s) hz]
    rfl
  · rw [exec_scanConversionTimeout hr hc hd, nextRun_first (s := abortRun s) hg hi, settle_of_zero (by exact hz)]
    rfl
  intro counts
  have hexec := exec_scanStepConversionEnd hr raw hc hd
  refine ⟨fun i hlt hi hb => ?_, fun hb hex => ?_⟩
  · rw [hexec, stepConverted_next raw.toNat s hlt hi hb, settle_of_zero (by exact hz)]
    rfl
  rw [stepConverted_last raw.toNat s hb] at hexec
  have hmu := completeRun_mu (counted run raw.toNat) s
  obtain ⟨next, hnext, hnone, hsome⟩ := nextRun_completed (counted run raw.toNat) hex
  rw [hnext] at hexec
  refine ⟨_, hexec, ?_⟩
  simp only [settle_same, completeRun_same]
  rw [hmu]
  refine ⟨hnone, hsome, rfl, rfl, rfl, rfl, rfl, rfl, fun h => if_pos h, fun h => if_neg (ne_true_of_eq_false h), fun h hft => ?_,
    trivial, trivial, trivial, fun r => ⟨fun hno => ?_, fun i hi hrole hlast => ?_⟩⟩
  · obtain ⟨ft, hrep, e⟩ := completeRun_config (run := counted run raw.toNat) h
    rw [e, settle_of_zero (by exact hz)] at hft ⊢
    dsimp only at hft
    subst hft
    rw [snapshotNotes_nil hrep]
    rfl
  · refine (snapshotTaken_entry _ _ _).trans ?_
    rw [roleResult_absent (run := counted run raw.toNat) s hno]
  · refine (snapshotTaken_entry _ _ _).trans ?_
    rw [roleResult_entry (run := counted run raw.toNat) s ⟨hi, hrole⟩ hlast, scaled_eq]
    rfl
end

section
/-! O49: a publication of the snapshot in RUN, and the position that the HC takes from it. -/

namespace Sys2Proof.Machine

open Sys2Proof

/-! ### The ranges of the roles -/

theorem fSensorRange_ne_stale (r : Fin 16) : fScanStale ≠ fSensorRange r := by
  revert r
  decide

section
variable {run : ScanRun} {s : State} {ft : Vector FaultEntry 47} (h : RangesReported run s ft)
include h

/-- The SENSOR_RANGE entry of a role as the jobs find it (R59). -/
theorem snapshotReady_range (r : Fin 16) : (snapshotReady run s ft).ft[fSensorRange r] =
    rangeAt s.time (roleResult run s r).1 (s.mu.mem[r]).invalid (roleResult run s r).2.endCode s.ft[fSensorRange r] :=
  (entry_set_other _ (fSensorRange_ne_stale r) _).trans (h.1 r)

/-- Every entry but those of the roles and SCAN_STALE stands (R59, R60). -/
theorem snapshotReady_other {i : Fin 47} (hi : i.val < 2 ∨ 18 < i.val) : (snapshotReady run s ft).ft[i] = s.ft[i] := by
  have hne : fScanStale ≠ i := fun e => by
    subst e
    simp [fScanStale] at hi
  exact (entry_set_other _ hne _).trans (h.2 i (by omega))

omit h in
/-- A start report's notice carries the detail that the report leaves in its entry (R197). -/
theorem raisedNote_detail (s : State) (i : Fin 47) (t d : Nat) :
    raisedNote s i d = raisedNote s i (startedAt t d s.ft[i]).detail.toNat := by
  unfold raisedNote
  split
  · rfl
  · rw [startedAt_detail _ _ ‹_›]
    simp only [noticeOf, BitVec.ofNat_toNat, BitVec.setWidth_eq]

/-- The notices of a publication, from the entries as the jobs find them (R59, R60). -/
theorem snapshotReady_notes : snapshotNotes run s = (List.finRange 16).flatMap fun r : Fin 16 =>
    let x := (snapshotReady run s ft).mu.snapshot.entries[r]
    let n := (s.mu.mem[r]).invalid
    if x.present = false then [] else if x.valid = true then (if 3 ≤ n then endedNote s (fSensorRange r) else [])
    else if n = 2 then raisedNote s (fSensorRange r) ((snapshotReady run s ft).ft[fSensorRange r]).detail.toNat else [] := by
  refine List.flatMap_congr fun r _ => ?_
  dsimp only
  rw [show (snapshotReady run s ft).mu.snapshot.entries[r] = (roleResult run s r).1 from snapshotTaken_entry run s r,
    snapshotReady_range h r]
  unfold rangeNotes rangeAt
  split
  · rfl
  split
  · rfl
  split
  · exact raisedNote_detail s _ s.time _
  · rfl

/-- A role that the run does not carry (R55, R58). -/
theorem snapshotReady_absent {r : Fin 16} (hno : ∀ i : Fin 16, ¬((run.steps[i]).enabled = true ∧ (run.steps[i]).role = r.val)) :
    let u := snapshotReady run s ft
    u.mu.snapshot.entries[r] = {} ∧ u.mu.mem[r] = ⟨none, none, (s.mu.mem[r]).invalid⟩
      ∧ u.ft[fSensorRange r] = s.ft[fSensorRange r] := by
  have hr := roleResult_absent s hno
  refine ⟨(snapshotTaken_entry run s r).trans ?_, (snapshotTaken_mem run s r).trans ?_, (snapshotReady_range h r).trans ?_⟩
  · rw [hr]
  · rw [hr]
  · rw [hr]; rfl

section
variable {r i : Fin 16} (hi : (run.steps[i]).enabled = true ∧ (run.steps[i]).role = r.val)
  (hb : ∀ j : Fin 16, i < j → ¬((run.steps[j]).enabled = true ∧ (run.steps[j]).role = r.val))
include hi hb

/-- A role with a valid count ends its condition after three invalid runs (R58, R59). -/
theorem snapshotReady_valid (hk : CountOk ((run.counts[i]).getD 0)) :
    let u := snapshotReady run s ft
    let x := u.mu.snapshot.entries[r]
    x.present = true ∧ x.valid = true ∧ u.mu.mem[r] = ⟨some (x.value, s.time), none, 0⟩
      ∧ u.ft[fSensorRange r] = if 3 ≤ (s.mu.mem[r]).invalid then endedAt s.time s.ft[fSensorRange r] else s.ft[fSensorRange r] := by
  intro u x
  have hr := roleResult_valid s hi hb hk
  have hx : x = (roleResult run s r).1 := snapshotTaken_entry run s r
  have hm : u.mu.mem[r] = (roleResult run s r).2 := snapshotTaken_mem run s r
  rw [hm, snapshotReady_range h r, hx, hr]
  exact ⟨rfl, rfl, rfl, rfl⟩

/-- A role with an invalid count: the third in a row raises its condition (R58, R59). -/
theorem snapshotReady_missed (hk : ¬CountOk ((run.counts[i]).getD 0)) :
    let u := snapshotReady run s ft
    let x := u.mu.snapshot.entries[r]
    let n := (s.mu.mem[r]).invalid
    x.present = true ∧ x.valid = false ∧ u.mu.mem[r] = missed ((run.counts[i]).getD 0) s.mu.mem[r]
      ∧ (n ≠ 2 → u.ft[fSensorRange r] = s.ft[fSensorRange r])
      ∧ (n = 2 → u.ft[fSensorRange r] =
          startedAt s.time (if (run.counts[i]).getD 0 < 80 then 0 else 1) s.ft[fSensorRange r]) := by
  intro u x n
  have hr := roleResult_missed s hi hb hk
  obtain ⟨hp, hv⟩ := heldEntry_flags s.time s.mu.mem[r]
  have hx : x = (roleResult run s r).1 := snapshotTaken_entry run s r
  have hm : u.mu.mem[r] = (roleResult run s r).2 := snapshotTaken_mem run s r
  have hcode : (missed ((run.counts[i]).getD 0) s.mu.mem[r]).endCode = if (run.counts[i]).getD 0 < 80 then 0 else 1 := by
    unfold RoleMem.endCode missed
    split <;> rfl
  rw [hm, snapshotReady_range h r, hx, hr]
  dsimp only
  rw [hcode, rangeAt, hp, hv]
  exact ⟨rfl, rfl, rfl, fun hn => if_neg hn, fun hn => if_pos hn⟩

end

end

/-! ### The position -/

/-- The HC with the position of a snapshot taken (R158). -/
def positionTaken (e : RoleEntry) (h : Hitch) : Hitch :=
  { h with pos := e.value.toNat, posValid := e.present && e.valid, stopPosition := !(e.present && e.valid) }

/-- A valid position, or a hitch STOPPED already, is only taken (R158). -/
theorem hcOnSnapshot_takes {s : State}
    (h : ((s.mu.snapshot.entries[rolePos]).present && (s.mu.snapshot.entries[rolePos]).valid) = true ∨ s.hc.state = .stopped) :
    hcOnSnapshot s = { s with hc := positionTaken s.mu.snapshot.entries[rolePos] s.hc } := by
  unfold hcOnSnapshot
  dsimp only
  split
  · rfl
  · exact if_pos (h.resolve_left ‹_›)

/-- An absent or invalid position stops the hitch (R158, R174). -/
theorem hcOnSnapshot_stops {s : State}
    (h : ((s.mu.snapshot.entries[rolePos]).present && (s.mu.snapshot.entries[rolePos]).valid) = false) (hs : s.hc.state ≠ .stopped) :
    ∃ vo, HitchChans 0 0 vo s ∧ hcOnSnapshot s = { s with
      vo := vo
      lp := offerAll [noticeOf s .hitchState 0 .hc 6 s.hc.state.code] s.lp
      hc := settledIn .stopped .lockedOut s.time (positionTaken s.mu.snapshot.entries[rolePos] s.hc) } := by
  obtain ⟨vo, hv, e⟩ := hcStop_eq (s := { s with hc := positionTaken s.mu.snapshot.entries[rolePos] s.hc }) hs
  refine ⟨vo, ⟨hv.raise, hv.lower, hv.other, hv.rest⟩, ?_⟩
  unfold hcOnSnapshot
  exact (if_neg (ne_true_of_eq_false h)).trans e

/-- The hitch record of a stop, field by field (R153, R174). -/
theorem settledIn_stopped {t : Nat} {h : Hitch} (hs : h.state ≠ .stopped) : settledIn .stopped .lockedOut t h = { h with
    prev := h.state, state := .stopped, changeTime := t, ret := .lockedOut, raiseCmd := 0, lowerCmd := 0
    shockTimer := if h.state = .shock then none else h.shockTimer
    stall := if h.state = .control then none else h.stall
    reached := h.reached && decide (h.state ≠ .transport) } := by
  unfold settledIn hcEnter
  cases hst : h.state <;> simp_all

end Sys2Proof.Machine

open Sys2Proof Sys2Proof.Machine

/-- Settles O49: the state in which the jobs take the snapshot, role by role, and the HC's act. -/
theorem snapshotPublicationsReachTheJobs : Obligations.SnapshotPublicationsReachTheJobs := by
  unfold Obligations.SnapshotPublicationsReachTheJobs
  refine ⟨fun raw s hz hrun run hr hc hd hb hex => ?_, fun s => ?_⟩
  · intro counts latched
    have hexec := exec_scanStepConversionEnd hr raw hc hd
    rw [stepConverted_last raw.toNat s hb] at hexec
    obtain ⟨next, hnext, hnone, -⟩ := nextRun_completed (s := s) (counted run raw.toNat) fun hg => hex hg.2
    obtain ⟨ft, hft, htold⟩ := completeRun_run (s := s) (run := counted run raw.toNat) hrun
    rw [hnext, htold] at hexec
    refine ⟨snapshotReady (counted run raw.toNat) s ft, next, hexec, rfl, rfl, rfl, rfl, fun hm => hnone fun hg => hm hg.2,
      entry_set_same _ _ _, fun i hi => snapshotReady_other hft hi, ?_, fun r => ⟨snapshotReady_absent hft, ?_⟩⟩
    · rw [← snapshotReady_notes hft]
      rfl
    · intro i hi hrole hlast k x
      by_cases hk : CountOk k
      · obtain ⟨hp, hv, hm, hf⟩ := snapshotReady_valid hft (run := counted run raw.toNat) ⟨hi, hrole⟩ hlast hk
        exact ⟨hp, hv.trans (decide_eq_true hk).symm, fun _ => ⟨hm, hf⟩, fun hx => Bool.noConfusion (hx.symm.trans hv)⟩
      · obtain ⟨hp, hv, hm, hkept, hraised⟩ := snapshotReady_missed hft (run := counted run raw.toNat) ⟨hi, hrole⟩ hlast hk
        refine ⟨hp, hv.trans (decide_eq_false hk).symm, fun hx => Bool.noConfusion (hx.symm.trans hv), fun _ =>
          ⟨hm, hkept, fun hn => ?_⟩⟩
        rw [hraised hn]
        exact ⟨startedAt_active _ _ _, fun ha => (startedAt_detail _ _ ha).trans (apply_ite (BitVec.ofNat 16) (k < 80) 0 1)⟩
  · intro x ok taken t
    refine ⟨hcOnSnapshot_takes, fun hok hs => ?_⟩
    obtain ⟨vo, hv, e⟩ := hcOnSnapshot_stops hok hs
    rw [settledIn_stopped (by exact hs)] at e
    rw [show t = _ from e]
    exact ⟨rfl, rfl, rfl, hv.closed⟩
end

section
/-! O47: draft conversions and the result of a settled one. -/

namespace Sys2Proof.Machine

open Sys2Proof

/-! ### The start of a conversion -/

/-- TRACK starts a scan run with this conversion (R51). -/
abbrev Tracks (s : State) : Prop := s.inRun = true ∧ s.mu.scanMode = .track ∧ s.mu.run = none

theorem trackStart_rests {s : State} (h : ¬Tracks s) : trackStart s = s := by
  refine if_neg fun x => h ?_
  simpa [Tracks, and_assoc] using x

theorem trackStart_first {s : State} (h : Tracks s) {i : Fin 16} (hi : FirstEnabled s.mu.steps i) :
    trackStart s = { s with mu := { s.mu with run := some (freshRun s.mu i s.time) } } := by
  unfold trackStart
  rw [if_pos (by simp [h.1, h.2.1, h.2.2]), startRun_first hi]

/-- CONVERSION_START at or after its moment, where what it leads to publishes no brake record (R40, R41). -/
theorem exec_conversionStart {s : State} {d : Nat} (hr : s.mu.dc.running = true) (hd : s.mu.dc.startDue = some d) (ht : d ≤ s.time)
    (hz : (trackStart { s with mu := { s.mu with dc := draftStarted s.mu.cfg d s.mu.dc } }).undelivered = 0) :
    exec .conversionStart s = .next (trackStart { s with mu := { s.mu with dc := draftStarted s.mu.cfg d s.mu.dc } }) := by
  have e : conversionStarts s = trackStart { s with mu := { s.mu with dc := draftStarted s.mu.cfg d s.mu.dc } } := by
    unfold conversionStarts
    rw [hd]
  rw [← e] at hz ⊢
  exact event_acts (by simp [hr, hd, State.due, ht]) hz

/-! ### The end of a conversion -/

/-- CONVERSION_END at or after its moment (R40). -/
theorem exec_conversionEnd {s : State} {due : Nat} {rest : List Nat} (hz : s.undelivered = 0) (hr : s.mu.dc.running = true)
    (he : s.mu.dc.ends = due :: rest) (ht : due ≤ s.time) (l r : BitVec 13) :
    exec (.conversionEnd l r) s = .next (draftEnded due l.toInt r.toInt s) := by
  have e : conversionEnds l.toInt r.toInt s = draftEnded due l.toInt r.toInt s := by
    unfold conversionEnds
    rw [he]
  rw [← e]
  refine event_acts (by simp [hr, he, State.due, ht]) ?_
  rw [e]
  simpa using hz

theorem chopDelayTime_eq (n : Nat) :
    chopDelayTime n = if n = 0 then 0 else if n = 1 then 500 else if n = 2 then 1000 else 2000 := by
  unfold chopDelayTime
  split <;> simp_all

/-- The converter reversed at the end, due at `due`, of a settled conversion (R41). -/
def reversedConv (due gap : Nat) (rest : List Nat) (l r : Int) (dc : DraftConv) : DraftConv := { dc with
  ends := rest, negative := !dc.negative, settled := 0, started := 0, startDue := some (due + gap), prev := some (l, r) }

/-- The converter and the comparator after a settled conversion: reversed with chop on (R40, R41, R48). -/
def phaseEnded (due : Nat) (rest : List Nat) (l r : Int) (s : State) : State :=
  { s with mu := { s.mu with
    dc := if s.mu.cfg.chop then reversedConv due (chopDelayTime s.mu.cfg.chopDelay) rest l r s.mu.dc
      else { s.mu.dc with ends := rest }
    foc := if s.mu.cfg.chop then { s.mu.foc with ignored := 2 } else s.mu.foc } }

/-- The draft of a settled conversion, with chop on from its pins and those of the previous phase (R40, R42). -/
def settledDraft (chop negative : Bool) (pl pr l r : Int) : Int :=
  max (-6000) (min 6000 (if chop then
      (if negative then pl - l else l - pl).tdiv 2 + (if negative then pr - r else r - pr).tdiv 2 else l + r))

/-- A pin of a settled conversion lies inside its window, with chop on in both phases (R43). -/
def pinInside (lo hi : Int) (chop : Bool) (prev v : Int) : Bool :=
  decide ((lo ≤ v ∧ v ≤ hi) ∧ (chop = true → lo ≤ prev ∧ prev ≤ hi))

/-- The result of a settled conversion with the pins `l` and `r`, the previous phase's being `pl` and `pr` (R40 to R43). -/
def settledResult (pl pr l r : Int) (s u : State) : State :=
  let c := s.mu.cfg
  draftResult (settledDraft c.chop s.mu.dc.negative pl pr l r) (pinInside c.leftLow c.leftHigh c.chop pl l)
    (pinInside c.rightLow c.rightHigh c.chop pr r) u

section
variable {s : State} {due : Nat} {rest : List Nat} (he : s.mu.dc.ends = due :: rest)
include he

/-- A conversion before the filter has settled only counts (R40). -/
theorem draftEnded_counts (hs : s.mu.dc.settled < 2) (l r : Int) : draftEnded due l r s =
    { s with mu := { s.mu with dc := { s.mu.dc with ends := rest, settled := s.mu.dc.settled + 1 } } } := by
  unfold draftEnded
  dsimp only
  rw [if_pos hs, he, List.tail_cons]

variable (hs : 2 ≤ s.mu.dc.settled)
include hs

/-- The first settled conversion with chop on gives no result (R41, R42). -/
theorem draftEnded_first (hc : s.mu.cfg.chop = true) (hp : s.mu.dc.prev = none) (l r : Int) :
    draftEnded due l r s = phaseEnded due rest l r s := by
  unfold draftEnded phaseEnded
  dsimp only
  rw [if_neg (by omega), if_pos hc, hp, he, if_pos hc, if_pos hc]
  rfl

/-- A settled conversion gives a result, with chop on together with the previous phase's (R40 to R43). -/
theorem draftEnded_settled {pl pr : Int} (hp : s.mu.cfg.chop = true → s.mu.dc.prev = some (pl, pr)) (l r : Int) :
    draftEnded due l r s = settledResult pl pr l r s (phaseEnded due rest l r s) := by
  unfold draftEnded settledResult phaseEnded
  dsimp only
  rw [if_neg (by omega)]
  cases hc : s.mu.cfg.chop with
  | false =>
    simp [he, settledDraft, pinInside, clampDraft, clampI, DraftCfg.leftIn, DraftCfg.rightIn, inRangeI]
  | true =>
    rw [hp hc, he]
    unfold chopResult settledDraft pinInside DraftCfg.leftIn DraftCfg.rightIn inRangeI chopOutput
    cases hn : s.mu.dc.negative <;> simp [clampDraft, clampI, reversal, reversedConv, hn]

end

/-! ### The status and the count of DRAFT_INVALID -/

/-- The entry DRAFT_INVALID after a result at time `t`, after `n` invalid ones (R45). -/
def countedEntry (leftOk rightOk : Bool) (n t : Nat) (e : FaultEntry) : FaultEntry :=
  if leftOk && rightOk then (if 3 ≤ n then endedAt t e else e)
  else if n + 1 = 3 then startedAt t (draftDetail leftOk rightOk) e else e

/-- The notices of the count of DRAFT_INVALID (R45). -/
def countedNotes (leftOk rightOk : Bool) (s : State) : List Notice :=
  if leftOk && rightOk then (if 3 ≤ s.mu.draftInvalid then endedNote s fDraftInvalid else [])
  else if s.mu.draftInvalid + 1 = 3 then raisedNote s fDraftInvalid (draftDetail leftOk rightOk) else []

/-- The part with a result in the draft status and in the count of DRAFT_INVALID, before the HC takes it (R43, R44, R45). -/
def resultFiled (d : Int) (leftOk rightOk : Bool) (s : State) : State :=
  { s with
    mu := { s.mu with
      draft := { latest := some (d, leftOk && rightOk)
                 lastValid := if leftOk && rightOk then some d else s.mu.draft.lastValid }
      draftInvalid := if leftOk && rightOk then 0 else s.mu.draftInvalid + 1 }
    lp := offerAll (countedNotes leftOk rightOk s) s.lp
    ft := s.ft.set fDraftInvalid (countedEntry leftOk rightOk s.mu.draftInvalid s.time s.ft[fDraftInvalid]) }

/-- The count writes its number and its entry, and posts the notice of the report (R45). -/
theorem draftCount_eq (leftOk rightOk : Bool) (s : State) : draftCount leftOk rightOk s = { s with
    mu := { s.mu with draftInvalid := if leftOk && rightOk then 0 else s.mu.draftInvalid + 1 }
    lp := offerAll (countedNotes leftOk rightOk s) s.lp
    ft := s.ft.set fDraftInvalid (countedEntry leftOk rightOk s.mu.draftInvalid s.time s.ft[fDraftInvalid]) } := by
  have hq : isTrailerEntry fDraftInvalid = false := by decide
  unfold draftCount countedNotes countedEntry
  dsimp only
  split
  · split
    · exact ftEnd_entry hq _
    · rw [entry_set_self]; rfl
  · split
    · exact ftStart_entry hq _ _
    · rw [entry_set_self]; rfl

/-- A result is filed before the HC takes it (R44, R45, R159). -/
theorem draftResult_eq (d : Int) (leftOk rightOk : Bool) (s : State) :
    draftResult d leftOk rightOk s = hcDraftResult d (leftOk && rightOk) (resultFiled d leftOk rightOk s) := by
  unfold draftResult
  dsimp only
  rw [draftCount_eq]
  rfl

/-- What the MU keeps of a result (R43, R44, R45). -/
theorem draftResult_mu (d : Int) (leftOk rightOk : Bool) (s : State) :
    (draftResult d leftOk rightOk s).mu = (resultFiled d leftOk rightOk s).mu := by
  rw [draftResult_eq]
  simp only [hcDraftResult_same]

/-- A result leaves the converter and the comparator, and is the latest of the status (R44). -/
theorem settledResult_mu (pl pr l r : Int) (s u : State) : let m := (settledResult pl pr l r s u).mu
    m.dc = u.mu.dc ∧ m.foc = u.mu.foc ∧ m.draft.latest.isSome = true := by
  unfold settledResult
  rw [draftResult_mu]
  exact ⟨rfl, rfl, rfl⟩

end Sys2Proof.Machine

open Sys2Proof Sys2Proof.Machine

/-- Settles O47: the start of a conversion with the run that TRACK starts, and its end by what has settled. -/
theorem conversionsStartSettleAndReverse : Obligations.ConversionsStartSettleAndReverse := by
  unfold Obligations.ConversionsStartSettleAndReverse
  refine ⟨fun s hz hr d hd ht => ?_, fun l r s hz hr due rest he ht => ?_⟩
  · intro dc period conv tracks
    refine ⟨fun hn => ?_, fun i hk hi hb => ?_⟩
    · have e := trackStart_rests (s := { s with mu := { s.mu with dc := draftStarted s.mu.cfg d s.mu.dc } }) hn
      exact (exec_conversionStart hr hd ht (by rw [e]; exact hz)).trans (congrArg Host.Outcome.next e)
    · have e := trackStart_first (s := { s with mu := { s.mu with dc := draftStarted s.mu.cfg d s.mu.dc } }) hk ⟨hi, hb⟩
      exact (exec_conversionStart hr hd ht (by rw [e]; exact hz)).trans (congrArg Host.Outcome.next e)
  · intro dc gap
    have hgap : chopDelayTime s.mu.cfg.chopDelay = gap := chopDelayTime_eq _
    rw [exec_conversionEnd hz hr he ht]
    refine ⟨fun hs => ?_, fun hs hc hp => ?_, fun hs hc ⟨pl, pr⟩ hp => ?_⟩
    · rw [draftEnded_counts he hs]
    · rw [draftEnded_first he hs hc hp, phaseEnded, if_pos hc, if_pos hc, hgap]
      rfl
    · obtain ⟨hdc, hfoc, hlatest⟩ := settledResult_mu pl pr l.toInt r.toInt s (phaseEnded due rest l.toInt r.toInt s)
      rw [← draftEnded_settled he hs fun _ => hp] at hdc hfoc hlatest
      exact ⟨_, rfl, hgap ▸ hdc.trans (if_pos hc), hfoc.trans (if_pos hc), hlatest⟩
end

section
/-! O40: the control law, the stall test and what a draft result does in each state of the hitch. -/

namespace Sys2Proof.Machine

open Sys2Proof

/-! ### The errors of a pass -/

/-- The held draft term that a pass leaves (R161, R162). -/
theorem draftTerm_held (frozen valid : Bool) (h : Hitch) : (draftTerm frozen valid h).2 =
    if frozen = true then h.heldDraft else if valid = true then some (draftError h) else none := by
  cases frozen <;> cases valid <;> rfl

/-- A pass uses the held draft term while the draft is valid (R162). -/
theorem draftTerm_used (frozen valid : Bool) (h : Hitch) : (draftTerm frozen valid h).1 =
    if valid = true then (draftTerm frozen valid h).2 else none := by
  cases frozen <;> cases valid <;> rfl

/-- Without a draft term the position error is the mixed error (R162). -/
theorem mixedError_eq (lever pos mix : Nat) (term : Option Int) : mixedError lever pos mix term = match term with
    | some d => ((100 - (mix : Int)) * ((lever : Int) - pos) + mix * d).tdiv 100
    | none => (lever : Int) - pos := by
  cases term with
  | some d => rfl
  | none => exact Int.mul_tdiv_cancel_left _ (by decide)

theorem slipTerm_eq (on : Bool) (m : MotionRecord) (sLim : Nat) : slipTerm on m sLim =
    if on = true ∧ m.slipValid = true ∧ sLim < m.slip then min 1000 (4 * ((m.slip : Int) - sLim)) else 0 := by
  unfold slipTerm
  split
  · congr 1
    omega
  · rfl

/-- The opening of an error beyond the deadband (R164). -/
def openingOf (e : Int) (h : Hitch) : Nat := min ((e.natAbs - h.cfg.db) * h.cfg.gain / 16) h.cfg.vMax

/-- RAISE is commanded above the deadband and below the upper limit, LOWER below the deadband, limited (R164). -/
theorem lawCommands_eq (e : Int) (upper : Nat) (h : Hitch) : lawCommands e upper h =
    (if (h.cfg.db : Int) < e ∧ h.pos < upper then openingOf e h else 0,
      if e < -(h.cfg.db : Int) then min (min (openingOf e h) h.cfg.vDrop) h.dropRate else 0) := by
  unfold lawCommands lawOpening
  by_cases hd : e.natAbs ≤ h.cfg.db
  · rw [if_pos hd, if_neg (by omega), if_neg (by omega)]
  by_cases hn : e < 0
  · rw [if_neg hd, if_pos hn, if_pos hn, if_neg (by omega), if_pos (by omega)]
    rfl
  · rw [if_neg hd, if_neg hn, if_neg hn, if_neg (c := e < -(h.cfg.db : Int)) (by omega)]
    by_cases hu : upper ≤ h.pos
    · rw [if_pos hu, if_neg (by omega)]
    · rw [if_neg hu, if_pos (by omega)]
      rfl

/-- The term left by a pass on a record (R161, R162). -/
abbrev passTerm (s : State) : Option Int := (draftTerm s.sc.pub.phase.handOver (draftOk s) s.hc).2

/-- The commands of a pass (R160 to R164). -/
abbrev passCommands (s : State) : Nat × Nat :=
  lawCommands (lawError (draftTerm s.sc.pub.phase.handOver (draftOk s) s.hc).1 s.me.pub s.hc) (upperLimit s) s.hc

/-- One pass of the control law writes its term and its commands (R160 to R164). -/
theorem hcPass_eq (s : State) : ∃ vo, HitchChans (passCommands s).1 (passCommands s).2 vo s ∧ hcPass s = { s with
    vo := vo
    hc := { s.hc with
      heldDraft := passTerm s, raiseCmd := (passCommands s).1, lowerCmd := (passCommands s).2 } } := by
  obtain ⟨vo, hv, e⟩ := hcWrite_eq (passCommands s).1 (passCommands s).2 { s with hc := { s.hc with heldDraft := passTerm s } }
  exact ⟨vo, ⟨hv.raise, hv.lower, hv.other, hv.rest⟩, e⟩

/-! ### The stall test -/

/-- The valve that commands open to 300 or more (R174). -/
def wideOf (raise lower : Nat) : Option HitchValve :=
  if 300 ≤ raise then some .raise else if 300 ≤ lower then some .lower else none

/-- The position has moved by 5 or more from a stall reference (R174). -/
abbrev StallMoved (pos : Nat) (x : StallRef) : Prop := 5 ≤ ((pos : Int) - x.pos).natAbs

/-- The stall test finds a stall (R174). -/
def stallFound (wide : Option HitchValve) (ref : Option StallRef) (pos t : Nat) : Bool :=
  match wide, ref with
  | some v, some x => decide (v = x.valve ∧ ¬StallMoved pos x ∧ x.time + 1000000 ≤ t)
  | _, _ => false

/-- The reference of a stall test that finds no stall (R174). -/
def stallNext (wide : Option HitchValve) (ref : Option StallRef) (pos t : Nat) : Option StallRef :=
  match wide, ref with
  | none, _ => none
  | some v, none => some ⟨t, pos, v⟩
  | some v, some x => if v ≠ x.valve then none else if StallMoved pos x then some ⟨t, pos, v⟩ else some x

section
variable {s : State} {wide : Option HitchValve} (hw : wideOf s.hc.raiseCmd s.hc.lowerCmd = wide)
include hw

theorem hcStallTest_keeps (h : stallFound wide s.hc.stall s.hc.pos s.time = false) :
    hcStallTest s = { s with hc := { s.hc with stall := stallNext wide s.hc.stall s.hc.pos s.time } } := by
  have e : wideValve s.hc = wide := hw
  unfold hcStallTest
  rw [e]
  cases wide with
  | none => rfl
  | some v =>
    cases hr : s.hc.stall with
    | none => rfl
    | some x =>
      rw [hr] at h
      have hn : ¬(v = x.valve ∧ ¬StallMoved s.hc.pos x ∧ x.time + 1000000 ≤ s.time) := of_decide_eq_false h
      dsimp only [stallNext]
      by_cases hv : v = x.valve
      · rw [if_neg (not_not.2 hv), if_neg (not_not.2 hv)]
        by_cases hm : StallMoved s.hc.pos x
        · rw [if_pos hm]
          exact if_pos hm
        · rw [if_neg hm, ← hr]
          exact (if_neg hm).trans (if_neg fun ht => hn ⟨hv, hm, ht⟩)
      · rw [if_pos hv, if_pos hv]

theorem hcStallTest_stalls (h : stallFound wide s.hc.stall s.hc.pos s.time = true) : ∃ v, wide = some v ∧
    hcStallTest s = ftStart fHitchStall v.code (hcStop { s with hc := { s.hc with stopStall := true } }) := by
  have e : wideValve s.hc = wide := hw
  unfold hcStallTest
  rw [e]
  cases wide with
  | none => cases h
  | some v =>
    cases hr : s.hc.stall with
    | none => rw [hr] at h; cases h
    | some x =>
      rw [hr] at h
      obtain ⟨hv, hm, ht⟩ : v = x.valve ∧ ¬StallMoved s.hc.pos x ∧ x.time + 1000000 ≤ s.time := of_decide_eq_true h
      refine ⟨v, rfl, ?_⟩
      dsimp only
      rw [if_neg (not_not.2 hv)]
      exact (if_neg hm).trans (if_pos ht)

/-- A stall stops the hitch, then HITCH_STALL starts with its valve (R174). -/
theorem hcStallTest_stops (h : stallFound wide s.hc.stall s.hc.pos s.time = true) (hs : s.hc.state ≠ .stopped) :
    ∃ v vo, wide = some v ∧ HitchChans 0 0 vo s ∧ hcStallTest s = { s with
      vo := vo
      lp := offerAll (noticeOf s .hitchState 0 .hc 6 s.hc.state.code :: raisedNote s fHitchStall v.code) s.lp
      ft := s.ft.set fHitchStall (startedAt s.time v.code s.ft[fHitchStall])
      hc := settledIn .stopped .lockedOut s.time { s.hc with stopStall := true } } := by
  obtain ⟨v, hv, e⟩ := hcStallTest_stalls hw h
  obtain ⟨vo, hvo, e'⟩ := hcStop_eq (s := { s with hc := { s.hc with stopStall := true } }) hs
  refine ⟨v, vo, hv, ⟨hvo.raise, hvo.lower, hvo.other, hvo.rest⟩, ?_⟩
  rw [e, e', ftStart_entry (by decide)]
  rfl

end

/-! ### A draft result by the state of the hitch -/

/-- The hitch record with a draft result taken (R159). -/
def draftTaken (d : Int) (valid : Bool) (h : Hitch) : Hitch := { h with draft := d, draftValid := valid }

/-- A pending hold made a cause (R170). -/
def pendingTaken (h : Hitch) : Hitch := { h with holdPending := false, causeRequest := h.causeRequest || h.holdPending }

section
variable {d : Int} {valid : Bool} {s : State}

/-- In CONTROL a result leads to a pass and the stall test (R159). -/
theorem hcDraftResult_control (hp : s.hc.holdPending = false) (hs : s.hc.state = .control) :
    hcDraftResult d valid s = hcStallTest (hcPass { s with hc := draftTaken d valid s.hc }) := by
  simp [hcDraftResult, hcApplyPending, hcStoppedResult, hcDraftAct, draftTaken, hp, hs]

/-- In SHOCK, HEADLAND and TRANSPORT a result leads to the commands of the state (R159). -/
theorem hcDraftResult_lifts (hp : s.hc.holdPending = false)
    (hs : s.hc.state = .shock ∨ s.hc.state = .headland ∨ s.hc.state = .transport) :
    hcDraftResult d valid s = hcDrive { s with hc := draftTaken d valid s.hc } := by
  rcases hs with hs | hs | hs <;>
    simp [hcDraftResult, hcApplyPending, hcStoppedResult, hcDraftAct, draftTaken, hp, hs]

/-- A pending hold of a hitch that can hold leads to HELD (R169, R170). -/
theorem hcDraftResult_holds (hp : s.hc.holdPending = true)
    (hs : s.hc.state = .control ∨ s.hc.state = .shock ∨ s.hc.state = .headland ∨ s.hc.state = .transport) :
    hcDraftResult d valid s = hcHold { s with hc := pendingTaken (draftTaken d valid s.hc) } := by
  have hh : hcApplyPending { s with hc := draftTaken d valid s.hc } =
      hcHold { s with hc := pendingTaken (draftTaken d valid s.hc) } := by
    simp [hcApplyPending, pendingTaken, draftTaken, hp]
  obtain ⟨vo, -, e⟩ := hcHold_eq (s := { s with hc := pendingTaken (draftTaken d valid s.hc) }) hs
  unfold hcDraftResult
  refine (congrArg (fun x => hcDraftAct (hcStoppedResult x)) hh).trans ?_
  rw [e]
  rfl

/-- A pending hold is made a cause in the other states and changes nothing more (R169, R170). -/
theorem hcApplyPending_rest (hs : s.hc.state = .lockedOut ∨ s.hc.state = .held ∨ s.hc.state = .stopped) :
    hcApplyPending s = { s with hc := pendingTaken s.hc } := by
  unfold hcApplyPending
  split <;> rename_i hp
  · refine (hcHold_rest (by rcases hs with hs | hs | hs <;> simp [hs])).trans ?_
    simp [pendingTaken, hp]
  · have hp : s.hc.holdPending = false := by simpa using hp
    unfold pendingTaken
    rw [hp, Bool.or_false, ← hp]

/-- In LOCKED_OUT and HELD a result is only taken (R159). -/
theorem hcDraftResult_rests (hs : s.hc.state = .lockedOut ∨ s.hc.state = .held) :
    hcDraftResult d valid s = { s with hc := pendingTaken (draftTaken d valid s.hc) } := by
  unfold hcDraftResult
  dsimp only
  rw [hcApplyPending_rest (by rcases hs with hs | hs <;> simp [hs])]
  rcases hs with hs | hs <;> simp [hcStoppedResult, hcDraftAct, pendingTaken, draftTaken, hs]

/-- The part with the stall condition ended and a result taken in STOPPED (R174). -/
def stallEnded (d : Int) (valid : Bool) (s : State) : State := { s with
  hc := pendingTaken (draftTaken d valid s.hc)
  lp := offerAll (endedNote s fHitchStall) s.lp
  ft := s.ft.set fHitchStall (endedAt s.time s.ft[fHitchStall]) }

/-- In STOPPED a result ends the stall condition and tests the exit (R174, R176). -/
theorem hcDraftResult_stopped (hs : s.hc.state = .stopped) :
    hcDraftResult d valid s = hcExitTest (stallEnded d valid s) := by
  have hact : ∀ t : State, t.hc.state = .lockedOut ∨ t.hc.state = .stopped → hcDraftAct t = t := by
    rintro t (h | h) <;> simp [hcDraftAct, h]
  unfold hcDraftResult
  dsimp only
  rw [hcApplyPending_rest (by simp [hs]), hcStoppedResult, if_pos (by exact hs), ftEnd_entry (by decide)]
  refine hact _ ?_
  unfold hcExitTest
  split
  · obtain ⟨vo, -, e⟩ := hcChange_rest (new := .lockedOut) (by simp) .lockedOut
      { stallEnded d valid s with hc := { (stallEnded d valid s).hc with stopStall := false } }
    exact .inl (congrArg (fun t : State => t.hc.state) e)
  · exact .inr hs

end

/-- The hitch record of a stop in CONTROL, field by field (R153, R174). -/
theorem settledIn_stalled {t : Nat} {h : Hitch} (hs : h.state = .control) : settledIn .stopped .lockedOut t h = { h with
    prev := .control, state := .stopped, changeTime := t, ret := .lockedOut, stall := none, raiseCmd := 0, lowerCmd := 0 } := by
  unfold settledIn hcEnter
  simp [hs]

/-- The hitch record of a hold, field by field (R153, R169). -/
theorem settledIn_held {t : Nat} {h : Hitch}
    (hs : h.state = .control ∨ h.state = .shock ∨ h.state = .headland ∨ h.state = .transport) :
    settledIn .held (if h.state = .shock then .control else h.state) t h = { h with
      prev := h.state, state := .held, changeTime := t
      ret := if h.state = .headland ∨ h.state = .transport then h.state else .control
      shockTimer := if h.state = .shock then none else h.shockTimer
      stall := if h.state = .control then none else h.stall, raiseCmd := 0, lowerCmd := 0 } := by
  unfold settledIn hcEnter
  rcases hs with hs | hs | hs | hs <;> simp [hs]

/-- The hitch record of the exit of STOPPED, field by field (R153, R176). -/
theorem settledIn_left {t : Nat} {h : Hitch} (hs : h.state = .stopped) : settledIn .lockedOut .lockedOut t h = { h with
    prev := .stopped, state := .lockedOut, changeTime := t, ret := .lockedOut, raiseCmd := 0, lowerCmd := 0 } := by
  unfold settledIn hcEnter
  simp [hs]

/-! ### The exit of STOPPED -/

/-- A blocking entry stands or not by the blocking entries alone (R199). -/
theorem blockingEntry_congr {ft ft' : Vector FaultEntry 47} (cls : FaultClass)
    (h : ∀ i : Fin 47, faultBlocking i = true → ((ft[i]).state = .clear ↔ (ft'[i]).state = .clear)) :
    blockingEntry ft cls = blockingEntry ft' cls := by
  refine List.find?_congr fun i _ => ?_
  cases hb : faultBlocking i with
  | false => simp
  | true =>
    have hst : (ft[i]).stands = (ft'[i]).stands := decide_eq_decide.2 (not_congr (h i hb))
    rw [hst]

/-- A hitch STOPPED leaves it at a draft result (R176). -/
abbrev StopLeft (s : State) : Prop := s.hc.stopPosition = false ∧ s.hc.raiseForced = false ∧ s.hc.lowerForced = false
  ∧ blockingEntry s.ft .hitch = none

theorem hcExitTest_stays {s : State} (h : ¬StopLeft s) : hcExitTest s = s :=
  if_neg fun x => h x.2

/-- The exit of STOPPED (R153, R176). -/
theorem hcExitTest_leaves {s : State} (hs : s.hc.state = .stopped) (h : StopLeft s) :
    ∃ vo, HitchChans 0 0 vo s ∧ hcExitTest s = { s with
      vo := vo
      lp := offerAll [noticeOf s .hitchState 0 .hc 0 6] s.lp
      hc := settledIn .lockedOut .lockedOut s.time { s.hc with stopStall := false } } := by
  obtain ⟨vo, hv, e⟩ := hcChange_rest (new := .lockedOut) (by simp) .lockedOut { s with hc := { s.hc with stopStall := false } }
  refine ⟨vo, ⟨hv.raise, hv.lower, hv.other, hv.rest⟩, (if_pos ⟨hs, h⟩).trans (e.trans ?_)⟩
  dsimp only
  rw [hs]
  rfl

/-- A result in STOPPED that leads to the exit posts the end of HITCH_STALL first (R174, R176). -/
theorem hcDraftResult_exits {d : Int} {valid : Bool} {s : State} (hs : s.hc.state = .stopped) (h : StopLeft (stallEnded d valid s)) :
    ∃ vo, HitchChans 0 0 vo s ∧ hcDraftResult d valid s = { stallEnded d valid s with
      vo := vo
      lp := offerAll (endedNote s fHitchStall ++ [noticeOf s .hitchState 0 .hc 0 6]) s.lp
      hc := settledIn .lockedOut .lockedOut s.time { pendingTaken (draftTaken d valid s.hc) with stopStall := false } } := by
  obtain ⟨vo, hv, e⟩ := hcExitTest_leaves (s := stallEnded d valid s) hs h
  refine ⟨vo, ⟨hv.raise, hv.lower, hv.other, hv.rest⟩, (hcDraftResult_stopped hs).trans (e.trans ?_)⟩
  rw [offerAll_append]
  rfl

/-! ### The fault table at a draft result -/

/-- The entry DRAFT_INVALID that the count leaves, as the reports leave it (R45, R197, R198). -/
theorem countedEntry_eq (leftOk rightOk : Bool) (s : State) :
    countedEntry leftOk rightOk s.mu.draftInvalid s.time s.ft[fDraftInvalid] =
      (if leftOk && rightOk then (if 3 ≤ s.mu.draftInvalid then ftEnd fDraftInvalid s else s)
        else if s.mu.draftInvalid + 1 = 3 then ftStart fDraftInvalid (draftDetail leftOk rightOk) s
        else s).ft[fDraftInvalid] := by
  have hq : isTrailerEntry fDraftInvalid = false := by decide
  unfold countedEntry
  split
  · split
    · rw [ftEnd_entry hq, entry_set_same]
    · rfl
  · split
    · rw [ftStart_entry hq, entry_set_same]
    · rfl

section
variable (d : Int) (leftOk rightOk : Bool) (s : State)

theorem resultFiled_entry {i : Fin 47} (h : i ≠ fDraftInvalid) : (resultFiled d leftOk rightOk s).ft[i] = s.ft[i] :=
  entry_set_other _ h.symm _

theorem resultFiled_stale : (resultFiled d leftOk rightOk s).isStale = s.isStale :=
  congrArg (fun a : FaultEntry => decide (a.state = .active)) (resultFiled_entry d leftOk rightOk s (by decide))

theorem resultFiled_raised (v : Nat) : raisedNote (resultFiled d leftOk rightOk s) fHitchStall v = raisedNote s fHitchStall v := by
  unfold raisedNote
  rw [resultFiled_entry _ _ _ _ (by decide)]
  rfl

theorem resultFiled_ended : endedNote (resultFiled d leftOk rightOk s) fHitchStall = endedNote s fHitchStall := by
  unfold endedNote
  rw [resultFiled_entry _ _ _ _ (by decide)]
  rfl

/-- Neither the count nor the end of the stall condition changes what blocks the hitch (R198, R199). -/
theorem stallEnded_blocking (valid : Bool) :
    blockingEntry (stallEnded d valid (resultFiled d leftOk rightOk s)).ft .hitch = blockingEntry s.ft .hitch := by
  refine blockingEntry_congr _ fun i hi => ?_
  have hi' : i ≠ fDraftInvalid := fun x => absurd (x ▸ hi) (by decide)
  rw [← resultFiled_entry d leftOk rightOk s hi']
  by_cases h : i = fHitchStall
  · subst h
    rw [stallEnded, entry_set_same, endedAt_clear]
  · rw [stallEnded, entry_set_other _ (Ne.symm h)]

end

end Sys2Proof.Machine

open Sys2Proof Sys2Proof.Machine

/-- Settles O40: the result is filed, and the hitch acts on it by its state. -/
theorem draftResultsRunTheControlLaw : Obligations.DraftResultsRunTheControlLaw := by
  unfold Obligations.DraftResultsRunTheControlLaw
  intro l r pl pr s hz hr hs hp due rest he ht c dc h hard upper half draft inLeft inRight leftOk rightOk inside valid gap n side
    counted countNotes ref formed frozen kept pos mixed m slip e v raise lower wide moved stalls stall taken held lift leaves
    changes gives drives
  let ended : State := phaseEnded due rest l.toInt r.toInt s
  let u : State := resultFiled draft leftOk rightOk ended
  have hexec : exec (.conversionEnd l r) s = .next (hcDraftResult draft inside u) := by
    rw [exec_conversionEnd hz hr he ht, draftEnded_settled he hs hp, settledResult, ← draftResult_eq]
    rfl
  have hgap : chopDelayTime s.mu.cfg.chopDelay = gap := chopDelayTime_eq _
  have give : ∀ (notes : List Notice) (P : State → Prop) (vo : ValveOut) (hc : Hitch) (ft : Vector FaultEntry 47),
      hcDraftResult draft inside u = { u with vo := vo, hc := hc, ft := ft, lp := offerAll notes u.lp } →
      (∀ j : Fin 14, j ≠ chRaise → j ≠ chLower → vo.chan[j] = s.vo.chan[j]) →
      (∀ i : Fin 47, i ≠ fHitchStall → ft[i] = u.ft[i]) →
      P { u with vo := vo, hc := hc, ft := ft, lp := offerAll notes u.lp } → gives notes P := by
    intro notes P vo hc ft heq hvo hft hP
    refine ⟨_, hexec.trans (congrArg Host.Outcome.next heq), ?_, ?_, fun i h1 h2 => ?_, hvo, rfl, rfl, rfl, rfl, rfl, rfl, ?_, hP⟩
    · rw [← hgap]; rfl
    · exact (hft _ (by decide)).trans ((entry_set_same _ _ _).trans (countedEntry_eq leftOk rightOk s))
    · exact (hft i h2).trans (resultFiled_entry draft leftOk rightOk ended h1)
    · exact (offerAll_append countNotes notes s.lp).symm
  let x : State := { u with hc := draftTaken draft inside h }
  have hvalid : draftOk x = valid := congrArg (fun a => inside && !a) (resultFiled_stale draft leftOk rightOk ended)
  have hterm : passTerm x = kept :=
    (draftTerm_held _ _ _).trans (if_congr decide_eq_true_iff rfl (by rw [hvalid]; rfl))
  have herror : lawError (draftTerm x.sc.pub.phase.handOver (draftOk x) x.hc).1 x.me.pub x.hc = e := by
    rw [lawError, draftTerm_used, show (draftTerm _ _ _).2 = kept from hterm, hvalid, mixedError_eq, slipTerm_eq]
    rfl
  have hcmds : passCommands x = (raise, lower) := by
    rw [passCommands, herror, lawCommands_eq]
    rfl
  have hstall : u.ft[fHitchStall] = s.ft[fHitchStall] := resultFiled_entry draft leftOk rightOk ended (by decide)
  have hraised : ∀ k, raisedNote u fHitchStall k = raisedNote s fHitchStall k := resultFiled_raised draft leftOk rightOk ended
  have hended : endedNote u fHitchStall = endedNote s fHitchStall := resultFiled_ended draft leftOk rightOk ended
  have hentry : (stallEnded draft inside u).ft[fHitchStall] = (ftEnd fHitchStall s).ft[fHitchStall] := by
    rw [ftEnd_entry (by decide), stallEnded, entry_set_same, entry_set_same, hstall]
    rfl
  have hother : ∀ i : Fin 47, i ≠ fHitchStall → (stallEnded draft inside u).ft[i] = u.ft[i] :=
    fun i hi => entry_set_other _ hi.symm _
  have hleft : StopLeft (stallEnded draft inside u) ↔ leaves := by
    unfold StopLeft
    rw [show blockingEntry (stallEnded draft inside u).ft .hitch = _ from stallEnded_blocking draft leftOk rightOk ended inside]
    exact Iff.rfl
  obtain ⟨vp, hvp, hpass⟩ := hcPass_eq x
  rw [hcmds] at hvp hpass
  rw [hterm] at hpass
  refine ⟨fun h1 h2 h3 => ?_, fun h1 h2 h3 => ?_, fun h1 h2 => ?_, fun h1 h2 => ?_, fun h2 => ?_, fun h2 h3 => ?_, fun h2 h3 => ?_⟩
  · refine give [] _ _ _ _ ((hcDraftResult_control (s := u) h1 h2).trans ((congrArg hcStallTest hpass).trans
      (hcStallTest_keeps (wide := wide) rfl h3))) hvp.other (fun _ _ => rfl) ⟨rfl, ⟨hvp.raise, hvp.lower⟩, hstall⟩
  · obtain ⟨k, vo, hk, hv, e⟩ := hcStallTest_stops (s := { x with
      vo := vp, hc := { x.hc with heldDraft := kept, raiseCmd := raise, lowerCmd := lower } }) (wide := wide) rfl h3
      (ne_of_eq_of_ne (b := HitchState.control) h2 (by decide))
    have hcode : k.code = if wide = some .raise then 0 else 1 := by
      rw [hk]
      cases k <;> rfl
    rw [hcode, settledIn_stalled (by exact h2)] at e
    intro valve
    rw [← hraised]
    refine give _ _ _ _ _ ((hcDraftResult_control (s := u) h1 h2).trans ((congrArg hcStallTest hpass).trans e))
      (fun j j1 j2 => (hv.other j j1 j2).trans (hvp.other j j1 j2)) (fun i hi => entry_set_other _ hi.symm _)
      ⟨rfl, ⟨hv.raise, hv.lower⟩, ?_, fun ha => ?_⟩
    · rw [entry_set_same]
      exact startedAt_active _ _ _
    · rw [entry_set_same]
      exact startedAt_detail _ _ fun k => ha (hstall ▸ k)
  · obtain ⟨vo, hv, e⟩ := hcDrive_eq x
    refine give [] _ _ _ _ ((hcDraftResult_lifts (s := u) h1 h2).trans e) hv.other (fun _ _ => rfl) ⟨?_, ⟨hv.raise, hv.lower⟩, hstall⟩
    rcases h2 with h2 | h2 | h2 <;> simp [x, u, draftTaken, resultFiled, ended, phaseEnded, lift, taken, h2, upperLimit, h, hard, upper]
  · obtain ⟨vo, hv, e⟩ := hcHold_eq (s := { u with hc := pendingTaken (draftTaken draft inside h) }) h2
    exact give (changes 5) _ _ _ _ ((hcDraftResult_holds (s := u) h1 h2).trans e) hv.other (fun _ _ => rfl)
      ⟨settledIn_held h2, ⟨hv.raise, hv.lower⟩, hstall⟩
  · exact give [] _ _ _ _ (hcDraftResult_rests (s := u) h2) (fun _ _ _ => rfl) (fun _ _ => rfl) ⟨rfl, rfl, hstall⟩
  · have hx : ¬StopLeft (stallEnded draft inside u) := fun k => h3 (hleft.1 k)
    rw [← hended]
    exact give _ _ _ _ _ ((hcDraftResult_stopped (s := u) h2).trans (hcExitTest_stays hx)) (fun _ _ _ => rfl)
      hother ⟨rfl, rfl, hentry⟩
  · obtain ⟨vo, hv, e⟩ := hcDraftResult_exits (s := u) h2 (hleft.2 h3)
    have hnote : changes 0 = [noticeOf u .hitchState 0 .hc 0 6] := by
      dsimp only [changes]
      rw [h2]
      rfl
    rw [← hended, hnote]
    exact give _ _ _ _ _ e hv.other hother
      ⟨settledIn_left h2, ⟨hv.raise, hv.lower⟩, hentry⟩
end

section
/-! SUPPORT. The expiry of the staleness timer at the VO, the HC and the TBC (R60, R90, R158, R178). -/

namespace Sys2Proof.Machine

open Sys2Proof

/-! ### The supply monitor and the hitch -/

/-- The part with SCAN_STALE raised and the supply monitor told of it (R60, R90, R91). -/
def staleReady (s : State) : State := { s with
  mu := { s.mu with stale := none }
  lp := offerAll (raisedNote s fScanStale 0) s.lp
  ft := s.ft.set fScanStale (startedAt s.time 0 s.ft[fScanStale])
  vo := { s.vo with
    supplyHold := if s.vo.supply = .normal then some (s.vo.supplyHold.getD s.time) else none } }

theorem staleReady_eq (s : State) :
    voOnStale (ftStart fScanStale 0 { s with mu := { s.mu with stale := none } }) = staleReady s := by
  rw [ftStart_entry (by decide)]
  unfold voOnStale staleReady
  dsimp only
  split <;> rename_i h <;> simp only [h, reduceCtorEq, if_true, if_false] <;> rfl

/-- The hitch record with the position taken as invalid (R158). -/
def positionLost (h : Hitch) : Hitch := { h with posValid := false, stopPosition := true }

/-- The stale indication stops a hitch that is not STOPPED (R158, R174). -/
theorem hcOnStale_eq (s : State) : ∃ vo, vo = { s.vo with chan := vo.chan } ∧ (s.hc.state = .stopped → vo = s.vo)
    ∧ (s.hc.state ≠ .stopped → HitchChans 0 0 vo s) ∧ hcOnStale s = { s with
      vo := vo
      lp := offerAll (if s.hc.state = .stopped then [] else [noticeOf s .hitchState 0 .hc 6 s.hc.state.code]) s.lp
      hc := if s.hc.state = .stopped then positionLost s.hc
        else settledIn .stopped .lockedOut s.time (positionLost s.hc) } := by
  by_cases h : s.hc.state = .stopped
  · refine ⟨s.vo, rfl, fun _ => rfl, fun x => absurd h x, ?_⟩
    rw [if_pos h, if_pos h]
    exact if_pos h
  · obtain ⟨vo, hv, e⟩ := hcStop_eq (s := { s with hc := positionLost s.hc }) h
    refine ⟨vo, hv.rest, fun x => absurd x h, fun _ => ⟨hv.raise, hv.lower, hv.other, hv.rest⟩, ?_⟩
    rw [if_neg h, if_neg h]
    exact e

/-! ### The trailer brake -/

/-- The brake record with the four roles taken as invalid and a charged line no longer known to be charged, before a running line
check is aborted (R178, R182, R185). -/
def rolesLost (pBrakeOn : Nat) (b : BrakeRecord) : BrakeRecord := { b with
  ctrlValid := false, suppValid := false, pedalValid := false, pPedal := 0, braking := decide (pBrakeOn = 0)
  supp := if (b.mode = .park ∧ b.check = .idle) ∨ b.present = false ∨ b.supp = .vented then .vented else .charging }

/-- The brake record that the stale indication leaves, but for P_cmd (R178, R182, R185, R192). -/
def staleRecord (pBrakeOn : Nat) (b : BrakeRecord) : BrakeRecord := { b with
  ctrlValid := false, suppValid := false, pedalValid := false, pPedal := 0, braking := decide (pBrakeOn = 0), check := .idle
  outcome := if b.check = .idle then b.outcome else .aborted
  supp := if (b.mode = .park ∨ b.present = false) ∨ (b.supp = .vented ∧ b.check = .idle) then .vented else .charging }

/-- The TBC with the roles lost at time `t`: the deviation hold time is discarded and the low hold time runs (R187, R188). -/
def brakeLost (t : Nat) (tb : TrailerBrake) : TrailerBrake := { tb with
  cur := rolesLost tb.pBrakeOn tb.cur, devHold := none
  lowHold := if tb.cur.mode ≠ .park ∧ tb.cur.present = true ∧ tb.cur.chargeOpen = false then some (tb.lowHold.getD t)
    else tb.lowHold }

/-- The roles and the supplementary line at the stale indication (R178, R182, R185). -/
theorem tbcSuppMeasure_lost (s : State) : tbcSuppMeasure (tbcInvalidate s) =
    { s with tbc := { s.tbc with cur := rolesLost s.tbc.pBrakeOn s.tbc.cur } } := by
  unfold tbcSuppMeasure tbcInvalidate tbcPedal modBrake rolesLost pedalOf
  dsimp only
  congr 3
  · exact decide_eq_decide.2 Nat.le_zero
  · unfold suppMeasured BrakeRecord.vents BrakeRecord.checking
    dsimp only
    cases s.tbc.cur.supp <;> simp

/-- Without a valid TRL_CTRL the deviation test discards its hold time and reports nothing (R188). -/
theorem deviationTest_invalid {s : State} (h : s.tbc.cur.ctrlValid = false) :
    deviationTest s = { s with tbc := { s.tbc with devHold := none } } := by
  unfold deviationTest
  dsimp only
  split
  · rw [if_neg (by simp [deviates, h]), if_neg (by simp [h])]
  · rfl

/-- What the TBC does at the stale indication before it aborts a line check (R178, R185, R187, R188). -/
theorem lowStale_lost (s : State) : lowStale (deviationTest (tbcSuppMeasure (tbcInvalidate s))) =
    { s with tbc := brakeLost s.time s.tbc } := by
  rw [tbcSuppMeasure_lost, deviationTest_invalid rfl]
  unfold lowStale brakeLost BrakeRecord.lowTested
  simp only [decide_eq_true_eq]
  split <;> rename_i h
  · rw [if_pos (by exact h)]
  · rw [if_neg (by exact h)]

/-- The abort of a running line check leaves the record of the stale indication (R185, R192). -/
theorem checkAborted_lost (on : Nat) (b : BrakeRecord) : checkAborted (rolesLost on b) = staleRecord on b := by
  unfold checkAborted rolesLost staleRecord suppAfterCheck
  by_cases hc : b.check = .idle
  · simp only [hc, if_true, and_true, or_assoc]
  · by_cases hp : b.mode = .park ∨ b.present = false
    · simp [hc, hp]
    · have h2 : b.present ≠ false := fun x => hp (.inr x)
      simp only [hc, h2, if_false, and_false, or_false, false_or]
      cases b.supp <;> simp

/-- The TBC at the stale indication, before the end of its event (R178, R192). -/
def brakeStale (t : Nat) (tb : TrailerBrake) : TrailerBrake := { brakeLost t tb with
  cur := staleRecord tb.pBrakeOn tb.cur, stage := if tb.cur.check = .idle then tb.stage else none }

theorem tbcOnStale_eq (s : State) : tbcOnStale s = tbcFinish { s with
    lp := offerAll (if s.tbc.cur.check = .idle then [] else [noticeOf s .lineCheckResult 1 .tbc 2 0]) s.lp
    tbc := brakeStale s.time s.tbc } := by
  unfold tbcOnStale
  rw [lowStale_lost, checkAbort_eq, show (brakeLost s.time s.tbc).cur = rolesLost s.tbc.pBrakeOn s.tbc.cur from rfl, checkAborted_lost]
  rfl

/-! ### The whole event -/

/-- The part at the stale indication with the VO and the HC told and the TBC at the end of its event, with the channels `vo` (R60,
R90, R158, R178). -/
def staleTold (vo : ValveOut) (s : State) : State := { staleReady s with
  vo := vo
  lp := offerAll (raisedNote s fScanStale 0
    ++ (if s.hc.state = .stopped then [] else [noticeOf s .hitchState 0 .hc 6 s.hc.state.code])
    ++ if s.tbc.cur.check = .idle then [] else [noticeOf s .lineCheckResult 1 .tbc 2 0]) s.lp
  hc := if s.hc.state = .stopped then positionLost s.hc else settledIn .stopped .lockedOut s.time (positionLost s.hc)
  tbc := brakeStale s.time s.tbc }

theorem scanStale_eq (s : State) : ∃ vo, vo = { (staleReady s).vo with chan := vo.chan }
    ∧ (s.hc.state = .stopped → vo = (staleReady s).vo) ∧ (s.hc.state ≠ .stopped → HitchChans 0 0 vo (staleReady s))
    ∧ scanStale s = tbcFinish (staleTold vo s) := by
  obtain ⟨vo, hrest, hstay, hstop, e⟩ := hcOnStale_eq (staleReady s)
  refine ⟨vo, hrest, hstay, hstop, ?_⟩
  unfold scanStale staleTold
  dsimp only
  rw [staleReady_eq, e, tbcOnStale_eq, offerAll_append, offerAll_append]
  rfl

/-- SCAN_STALE_EXPIRY at or after its moment (R60). -/
theorem exec_scanStaleExpiry {s : State} (hr : s.inRun = true) (hd : s.due s.mu.stale = true) :
    exec .scanStaleExpiry s = .next (settle (scanStale s)) :=
  event_settles (act := scanStale) (by rw [hr, hd]; rfl)

/-- The end of a TBC event leaves the part, the LP, the MU, the ME, the SC and the FDM as they were (R178). -/
theorem tbcFinish_eq (s : State) : tbcFinish s = { s with
    ft := (tbcFinish s).ft, vo := (tbcFinish s).vo, hc := (tbcFinish s).hc, tbc := (tbcFinish s).tbc
    undelivered := (tbcFinish s).undelivered } := by
  have h := tbcFinish_same s
  generalize tbcFinish s = t at h ⊢
  cases t
  simp only at h
  simp only [h]

@[simp] theorem tbcFinish_supplyHold (s : State) : (tbcFinish s).vo.supplyHold = s.vo.supplyHold := by
  rw [tbcFinish_vo]
  simp [writeChan, formDrive, modChan, tbcForm]

/-- No deviation hold time runs, and the low hold time is `x` (R187, R188). -/
def HoldsAre (x : Option Nat) (s : State) : Prop := s.tbc.devHold = none ∧ s.tbc.lowHold = x

theorem HoldsAre.finish {x : Option Nat} {s : State} (h : HoldsAre x s) : HoldsAre x (tbcFinish s) := by
  refine ⟨?_, (tbcFinish_timers s).2.2.1.trans h.2⟩
  rw [tbcFinish_tbc]
  have hf : (tbcForm s).tbc.devHold = none := by
    unfold tbcForm
    dsimp only
    rw [h.1, ite_self]
  unfold tbcPublish
  split <;> exact hf

/-- The low hold time is the TBC's own affair, and nothing else starts a deviation hold time (R187, R188). -/
theorem holds_tame (x : Option Nat) : Tame (fun _ => True) (HoldsAre x) where
  drive s h := by
    refine HoldsAre.finish (s := preBrakeTest s) ?_
    unfold preBrakeTest
    dsimp only
    split
    · exact h
    · split <;> exact h
  lp _ _ h := h
  sc _ _ h := h
  fdm _ _ h := h
  undelivered _ _ h := h
  chan _ _ _ _ h := by simpa [HoldsAre] using h
  fault _ _ _ _ h := h

/-- The brake record at the end of the event (R177, R178, R182). -/
theorem scanStale_brake (s : State) : BrakeShows (staleRecord s.tbc.pBrakeOn s.tbc.cur) s (settle (scanStale s)) := by
  obtain ⟨vo, hrest, -, -, e⟩ := scanStale_eq s
  have hforms : BrakeForms (staleRecord s.tbc.pBrakeOn s.tbc.cur) s (staleTold vo s) :=
    { time := rfl, pc := rfl, curve := rfl, pPre := rfl, pSafe := rfl, cur := rfl, pub := fun x => absurd rfl x
      hold := fun _ => rfl, off := fun _ x => x }
  rw [e]
  exact hforms.finish.shows fun _ => BrakeRests.finish
    { hforms with drive := rfl, queue := rfl, supply := by rw [show (staleTold vo s).vo = vo from rfl, hrest]; rfl, pre := rfl }

end Sys2Proof.Machine
end

section
/-! SUPPORT. The supply turned LOW at the VO, the SC, the FDM, the HC and the TBC (R90, R92, R133, R149, R172, R192). -/

namespace Sys2Proof.Machine

open Sys2Proof

/-! ### The FDM -/

/-- An evaluation leaves the FDM FORCED while a cause stands (R150). -/
theorem fdmEvaluate_forced {s : State} (h : s.fdm.state = .forced) (hc : s.fdm.anyCause = true) : fdmEvaluate false s =
    { s with fdm := { s.fdm with want := fdmWant s, blocked := .none } } := by
  unfold fdmEvaluate fdmAct
  simp only [Bool.false_eq_true, if_false, h]
  exact if_pos hc

/-- The delivery of brake record publications leaves the FDM FORCED while a cause stands (R141, R150). -/
theorem settle_stays_forced {s : State} (h : s.fdm.state = .forced) (hc : s.fdm.anyCause = true) :
    (settle s).fdm.state = .forced := by
  unfold settle
  generalize Config.deliveryFuel = n
  induction n generalizing s with
  | zero => exact h
  | succ n ih =>
    unfold deliverBrake
    split
    · exact h
    · have hb : (scOnBrake { s with undelivered := s.undelivered - 1 }).fdm = s.fdm := by simp
      generalize scOnBrake { s with undelivered := s.undelivered - 1 } = u at hb ⊢
      rw [← hb] at h hc
      have he := fdmEvaluate_forced h hc
      refine ih ?_ ?_ <;> rw [he]
      · exact h
      · exact hc

/-- A LOW supply forces the front drive (R149). -/
theorem fdmOnSupply_low {s : State} (h : s.vo.supply = .low) :
    (fdmOnSupply s).fdm.causeSupply = true ∧ (fdmOnSupply s).fdm.state = .forced := by
  unfold fdmOnSupply fdmForce
  rw [h]
  dsimp only
  split
  · exact ⟨rfl, ‹_›⟩
  · simp [fdmChange]

namespace Tame

variable {F : Fin 47 → Prop} {P : State → Prop} (h : Tame F P)
include h

theorem fdmOnSupply {s : State} (hs : P s) : P (fdmOnSupply s) := by
  unfold Machine.fdmOnSupply fdmForce
  split
  · split
    · exact h.fdm _ _ hs
    · exact h.fdmChange (h.fdm _ _ hs) _
  · exact h.fdm _ _ hs

theorem withdraw {s : State} (hs : P s) (run : ShiftRun) : P (withdraw run s) := by
  unfold Machine.withdraw
  split
  · exact h.enterRecovering hs _ _ _
  · exact h.enterRecovering hs _ _ _
  · exact h.enterRecovering hs _ _ _
  · exact h.post (h.enterAborting hs) _ _ _
  · exact hs
  · exact hs

theorem scOnSupply (hF : F fFillTimeout ∧ F fSyncTimeout) {s : State} (hs : P s) : P (scOnSupply s) := by
  unfold Machine.scOnSupply
  split
  · exact h.pendingTest hF hs
  · split
    · split
      · exact h.withdraw hs _
      · exact hs
    · exact hs
  all_goals exact hs

end Tame

/-! ### The HC -/

/-- A LOW supply holds a hitch in CONTROL, SHOCK, HEADLAND or TRANSPORT (R169, R172). -/
theorem hcOnSupply_low {s : State} (h : s.vo.supply = .low) : ∃ vo lp hc, hcOnSupply s = { s with vo := vo, lp := lp, hc := hc }
    ∧ vo = { s.vo with chan := vo.chan } ∧ (∀ j : Fin 14, j ≠ chRaise → j ≠ chLower → vo.chan[j] = s.vo.chan[j])
    ∧ hc.causeSupply = true ∧ (hc.state = .lockedOut ∨ hc.state = .held ∨ hc.state = .stopped) := by
  have e : hcOnSupply s = hcHold { s with hc := { s.hc with causeSupply := true } } := by
    unfold hcOnSupply
    rw [h]
  by_cases hs : s.hc.state = .control ∨ s.hc.state = .shock ∨ s.hc.state = .headland ∨ s.hc.state = .transport
  · obtain ⟨vo, hv, e'⟩ := hcHold_eq (s := { s with hc := { s.hc with causeSupply := true } }) hs
    exact ⟨vo, _, _, e.trans e', hv.rest, hv.other, rfl, .inr (.inl rfl)⟩
  · refine ⟨s.vo, s.lp, _, e.trans (hcHold_rest hs), rfl, fun _ _ _ => rfl, rfl, ?_⟩
    show s.hc.state = .lockedOut ∨ s.hc.state = .held ∨ s.hc.state = .stopped
    cases hst : s.hc.state <;> simp_all

/-! ### The supply -/

/-- The supply is LOW and reported, and FRONT_RELEASE is held off (R81, R90, R92). -/
structure SupplyLost (s : State) : Prop where
  supply : s.vo.supply = .low
  hold : s.vo.supplyHold = none
  front : (s.vo.chan[chFront]).drive = 0
  entry : (s.ft[fSupplyLow]).state = .active

/-- A write of FRONT_RELEASE leaves its current at 0 while the supply is LOW (R81). -/
theorem writeChan_front_low {s : State} (h : s.vo.supply = .low) (cmd : Nat) : ((writeChan chFront cmd s).vo.chan[chFront]).drive = 0 := by
  simp [writeChan, formDrive, modChan, driveCurrent, h]

theorem SupplyLost.finish {s : State} (h : SupplyLost s) : SupplyLost (tbcFinish s) where
  supply := (tbcFinish_supply s).trans h.supply
  hold := (tbcFinish_supplyHold s).trans h.hold
  front := by rw [tbcFinish_other (by decide)]; exact h.front
  entry := by simpa using h.entry

theorem supplyLost_tame : Tame (· ≠ fSupplyLow) SupplyLost where
  drive s h := by
    have hv : (preBrakeTest s).vo = s.vo ∧ (preBrakeTest s).ft = s.ft := by simp
    refine SupplyLost.finish (s := preBrakeTest s) ⟨?_, ?_, ?_, ?_⟩
    · rw [hv.1]; exact h.supply
    · rw [hv.1]; exact h.hold
    · rw [hv.1]; exact h.front
    · rw [hv.2]; exact h.entry
  lp _ _ h := { h with }
  sc _ _ h := { h with }
  fdm _ _ h := { h with }
  undelivered _ _ h := { h with }
  chan s i cmd hi h := by
    refine ⟨h.supply, h.hold, ?_, by simpa using h.entry⟩
    by_cases hf : i = chFront
    · subst hf
      exact writeChan_front_low h.supply cmd
    · rw [writeChan_other hf]
      exact h.front
  fault s i e hi h := ⟨h.supply, h.hold, h.front, by
    rw [show (modFault i e s).ft = s.ft.set i e from rfl, entry_set_other _ hi]
    exact h.entry⟩

theorem SupplyLost.hcOnSupply {s : State} (h : SupplyLost s) : SupplyLost (hcOnSupply s) := by
  obtain ⟨vo, lp, hc, e, hrest, hother, -⟩ := hcOnSupply_low h.supply
  rw [e]
  refine ⟨?_, ?_, ?_, h.entry⟩
  · rw [hrest]; exact h.supply
  · rw [hrest]; exact h.hold
  · rw [hother chFront (by decide) (by decide)]; exact h.front

/-! ### The TBC -/

/-- No line check runs, in the TBC's own record and in the published one (R190). -/
def NoCheck (s : State) : Prop := s.tbc.cur.check = .idle ∧ s.tbc.pub.check = .idle

/-- The end of a TBC event publishes that no line check runs (R177, R178). -/
theorem noCheck_finish {s : State} (h : s.tbc.cur.check = .idle) : NoCheck (tbcFinish s) := by
  have hf : (tbcForm s).tbc.cur.check = .idle := h
  unfold NoCheck
  rw [tbcFinish_tbc]
  unfold tbcPublish
  split
  · rename_i he
    exact ⟨hf, by rw [← he]; exact hf⟩
  · exact ⟨hf, hf⟩

/-- A line check is the TBC's own affair (R190). -/
theorem noCheck_tame : Tame (fun _ => True) NoCheck where
  drive s h := by
    refine noCheck_finish (s := preBrakeTest s) ?_
    unfold preBrakeTest
    dsimp only
    split
    · exact h.1
    · split <;> exact h.1
  lp _ _ h := h
  sc _ _ h := h
  fdm _ _ h := h
  undelivered _ _ h := h
  chan _ _ _ _ h := by simpa [NoCheck] using h
  fault _ _ _ _ h := h

/-- At a LOW supply the TBC aborts a running line check (R192). -/
theorem tbcOnSupply_low {s : State} (h : s.vo.supply = .low) : tbcOnSupply s = tbcFinish (checkAbort s) := by
  unfold tbcOnSupply
  rw [h]

theorem SupplyLost.tbcOnSupply {s : State} (h : SupplyLost s) : SupplyLost (tbcOnSupply s) := by
  rw [tbcOnSupply_low h.supply, checkAbort_eq]
  exact SupplyLost.finish { h with }

theorem tbcOnSupply_noCheck {s : State} (h : s.vo.supply = .low) : NoCheck (tbcOnSupply s) := by
  rw [tbcOnSupply_low h]
  refine noCheck_finish ?_
  rw [checkAbort_eq]
  exact (checkAborted_keeps _).1

/-! ### The whole event -/

/-- The part with the supply LOW, FRONT_RELEASE held off and SUPPLY_CHANGED posted (R81, R92). -/
def supplyTurned (shown : Nat) (s : State) : State := { s with
  vo := { s.vo with
    supply := .low, supplyHold := none, chan := s.vo.chan.set chFront ({ s.vo.chan[chFront] with drive := 0 }) }
  lp := offerNotice (noticeOf s .supplyChanged 2 .vo 1 shown) s.lp }

/-- The SC, the FDM, the HC and the TBC are told of the supply, in this order (R92). -/
def supplyTold (s : State) : State := tbcOnSupply (hcOnSupply (fdmOnSupply (scOnSupply s)))

theorem supplyChange_low (s : State) :
    supplyChange .low s = supplyTold (ftStart fSupplyLow (s.roleValueOr0 roleSupply) (supplyTurned (s.roleValueOr0 roleSupply) s)) := by
  have hd : formDrive chFront { s with vo := { s.vo with supply := .low, supplyHold := none } } = { s with
      vo := { s.vo with
        supply := .low, supplyHold := none, chan := s.vo.chan.set chFront ({ s.vo.chan[chFront] with drive := 0 }) } } := by
    simp [formDrive, modChan, driveCurrent]
  unfold supplyChange
  dsimp only
  rw [hd]
  rfl

theorem supplyTurned_lost (d shown : Nat) (s : State) : SupplyLost (ftStart fSupplyLow d (supplyTurned shown s)) := by
  rw [ftStart_entry (by decide)]
  exact ⟨rfl, rfl, congrArg Chan.drive (Vector.getElem_set_self _), by rw [entry_set_same]; exact startedAt_active _ _ _⟩

/-- What a LOW supply leaves at each block told (R92, R149, R172, R192). -/
theorem supplyTold_low {s : State} (h : SupplyLost s) : let t := supplyTold s
    SupplyLost t ∧ NoCheck t ∧ t.fdm.causeSupply = true ∧ t.fdm.state = .forced ∧ t.hc.causeSupply = true
      ∧ (t.hc.state = .lockedOut ∨ t.hc.state = .held ∨ t.hc.state = .stopped) := by
  have hsc : SupplyLost (scOnSupply s) := supplyLost_tame.scOnSupply (by decide) h
  have hfdm : SupplyLost (fdmOnSupply (scOnSupply s)) := supplyLost_tame.fdmOnSupply hsc
  have hhc := hfdm.hcOnSupply
  obtain ⟨hcause, hforced⟩ := fdmOnSupply_low hsc.supply
  obtain ⟨vo, lp, hc, e, -, -, hheld, hstate⟩ := hcOnSupply_low hfdm.supply
  have htold : (supplyTold s).hc = (hcOnSupply (fdmOnSupply (scOnSupply s))).hc := by simp [supplyTold]
  refine ⟨hhc.tbcOnSupply, tbcOnSupply_noCheck hhc.supply, ?_, ?_, ?_, ?_⟩
  · simpa [supplyTold] using hcause
  · simpa [supplyTold] using hforced
  · rw [htold, e]
    exact hheld
  · rw [htold, e]
    exact hstate

end Sys2Proof.Machine
end

section
/-! O51: the expiries of the staleness timer and of the supply's qualification. -/

namespace Sys2Proof.Machine

open Sys2Proof

/-- SUPPLY_QUALIFICATION_EXPIRY at or after its moment (R90). -/
theorem exec_supplyQualificationExpiry {s : State} (hr : s.inRun = true) (ht : (s.ft[fScanStale]).state = .active)
    (hs : s.vo.supply = .normal) (hh : s.heldFor s.vo.supplyHold 100000 = true) :
    exec .supplyQualificationExpiry s = .next (settle (supplyChange .low s)) := by
  refine event_settles (act := supplyChange .low) ?_
  have hstale : s.isStale = true := decide_eq_true ht
  have hnormal : decide (s.vo.supply = .normal) = true := decide_eq_true hs
  rw [hr, supplyExpired, hstale, hnormal]
  exact hh

/-- The hitch at the end of a SCAN_STALE_EXPIRY (R153, R158, R174). -/
theorem scanStale_hitch (s : State) :
    let t := settle (scanStale s)
    (s.hc.state = .stopped → t.hc = positionLost s.hc
        ∧ t.vo.chan[chRaise] = s.vo.chan[chRaise] ∧ t.vo.chan[chLower] = s.vo.chan[chLower])
      ∧ (s.hc.state ≠ .stopped → t.hc = settledIn .stopped .lockedOut s.time (positionLost s.hc)
        ∧ (t.vo.chan[chRaise]).command = 0 ∧ (t.vo.chan[chLower]).command = 0) := by
  intro t
  obtain ⟨vo, -, hstay, hstop, e⟩ := scanStale_eq s
  obtain ⟨hhc, -, -, hraise, hlower, -⟩ := settle_keeps (scanStale s)
  have hc : t.hc = (staleTold vo s).hc := by
    rw [hhc, e]
    simp only [tbcFinish_same]
  have hchan : ∀ j : Fin 14, j.val < 12 → (scanStale s).vo.chan[j] = vo.chan[j] := fun j hj => by
    rw [e, tbcFinish_other hj]
    rfl
  rw [hchan _ (by decide)] at hraise hlower
  refine ⟨fun h => ⟨hc.trans (if_pos h), ?_, ?_⟩, fun h => ⟨hc.trans (if_neg h), ?_, ?_⟩⟩
  · rw [hraise, hstay h]; rfl
  · rw [hlower, hstay h]; rfl
  · rw [hraise]; exact (hstop h).raise
  · rw [hlower]; exact (hstop h).lower

/-- Every fault entry but SCAN_STALE stands until the brake record's publications are delivered (R60). -/
theorem scanStale_entry (s : State) :
    (scanStale s).ft = s.ft.set fScanStale (startedAt s.time 0 s.ft[fScanStale]) := by
  obtain ⟨vo, -, -, -, e⟩ := scanStale_eq s
  rw [e]
  simp only [tbcFinish_same]
  rfl

/-- The supply monitor at the end of a SCAN_STALE_EXPIRY (R90, R91). -/
theorem scanStale_supply (s : State) : (settle (scanStale s)).vo.supply = s.vo.supply
    ∧ (settle (scanStale s)).vo.supplyHold = if s.vo.supply = .normal then some (s.vo.supplyHold.getD s.time) else none := by
  obtain ⟨vo, hrest, -, -, e⟩ := scanStale_eq s
  obtain ⟨-, hsupply, hhold, -⟩ := settle_keeps (scanStale s)
  rw [hsupply, hhold, e, tbcFinish_supply, tbcFinish_supplyHold, show (staleTold vo s).vo = vo from rfl, hrest]
  exact ⟨rfl, rfl⟩

/-- The timers of the TBC at the end of a SCAN_STALE_EXPIRY (R187, R188, R192). -/
theorem scanStale_timers (s : State) :
    HoldsAre (brakeLost s.time s.tbc).lowHold (settle (scanStale s))
      ∧ (settle (scanStale s)).tbc.stage = if s.tbc.cur.check = .idle then s.tbc.stage else none := by
  obtain ⟨vo, -, -, -, e⟩ := scanStale_eq s
  rw [e]
  refine ⟨(holds_tame _).settle ⟨trivial, trivial⟩ (HoldsAre.finish ⟨rfl, rfl⟩), (stage_tame _).settle ⟨trivial, trivial⟩ ?_⟩
  rw [(tbcFinish_timers _).1]
  rfl

end Sys2Proof.Machine

open Sys2Proof Sys2Proof.Machine

/-- Settles O51: each expiry block by block, in the order in which the blocks are told, and the delivery of what the TBC
published. -/
theorem staleScanAndLostSupply : Obligations.StaleScanAndLostSupply := by
  unfold Obligations.StaleScanAndLostSupply
  intro s hz hrun h b park old
  refine ⟨fun hd => ?_, fun ht hs hh => ?_⟩
  · obtain ⟨vo, -, -, -, e⟩ := scanStale_eq s
    obtain ⟨hstopped, hmoved⟩ := scanStale_hitch s
    obtain ⟨hsupply, hhold⟩ := scanStale_supply s
    obtain ⟨⟨hdev, hlow⟩, hstage⟩ := scanStale_timers s
    have hbrake := scanStale_brake s
    obtain ⟨hhc, -, -, -, -, hft⟩ := settle_keeps (scanStale s)
    have hother : ∀ j : Fin 47, j ≠ fScanStale → (scanStale s).ft[j] = s.ft[j] := fun j hj => by
      rw [scanStale_entry]
      exact entry_set_other _ hj.symm _
    refine ⟨_, scanStale s, exec_scanStaleExpiry hrun hd, rfl, ?_, ?_, hother, by simp, hhc, hsupply, hstopped, fun hn => ?_,
      hhold, hbrake, fun hon => ?_, hstage, hdev, ?_, hlow, ?_, by simp, by simp, by simp⟩
    · rw [e]
      exact tbcFinish_eq _
    · rw [hft _ (by decide) (by decide), scanStale_entry, entry_set_same]
      exact startedAt_active _ _ _
    · obtain ⟨hmove, hchans⟩ := hmoved hn
      exact ⟨hmove.trans (settledIn_stopped hn), hchans⟩
    · rw [hbrake.1.1]
      exact decide_eq_false (by omega)
    · rw [hft _ (by decide) (by decide), hother _ (by decide)]
    · rw [hft _ (by decide) (by decide), hother _ (by decide)]
  · intro x shown v
    have hexec := exec_supplyQualificationExpiry hrun ht hs hh
    have hshown : s.roleValueOr0 roleSupply = shown := roleValueOr0_eq s roleSupply
    rw [supplyChange_low, hshown] at hexec
    have hlost := supplyTurned_lost shown shown s
    have hkeeps : KeepsMeasures s (settle (supplyTold (ftStart fSupplyLow shown (supplyTurned shown s)))) := by
      simp [KeepsMeasures, supplyTold, supplyTurned]
    obtain ⟨htold, hcheck, hcause, hforced, hheld, hstate⟩ := supplyTold_low hlost
    generalize hp : supplyTold (ftStart fSupplyLow shown (supplyTurned shown s)) = p at *
    have hend := supplyLost_tame.settle (by decide) htold
    have hcauses : (settle p).fdm.causeSupply = true := (congrArg (fun c => c.2.1) (settle_causes p)).trans hcause
    obtain ⟨hhc, -⟩ := settle_keeps p
    refine ⟨_, hexec, congrArg settle hp.symm, hend.supply, hend.hold, hend.front, hend.entry, hcauses,
      settle_stays_forced hforced (by simp [FrontDrive.anyCause, hcause]), ?_, ?_,
      (noCheck_tame.settle ⟨trivial, trivial⟩ hcheck).2, hkeeps⟩
    · rw [hhc]; exact hheld
    · rw [hhc]; exact hstate
end

section
/-! O20: the engine record. -/

namespace Sys2Proof.Machine

open Sys2Proof

/-- A notice offered after a frame leaves the LP as the frame after the notice would, with the same test of the notices-lost flag
(R17, R19). -/
theorem TakenLp.offerNotice {a b : LinkPort} (h : TakenLp a b) (n : Notice) :
    TakenLp (offerNotice n a) (offerNotice n b) := by
  obtain ⟨⟨hb, hl⟩, hlost⟩ := h
  have hq : b.notices = a.notices := by rw [hb]
  obtain ⟨q, hq'⟩ : ∃ q, q = (offer n a.notices).2 := ⟨_, rfl⟩
  have ha : (Machine.offerNotice n a).lost = (a.lost || q) := by rw [hq']; rfl
  have hb' : (Machine.offerNotice n b).lost = (b.lost || q) := by rw [hq', ← hq]; rfl
  refine ⟨⟨?_, fun h => ?_⟩, ?_⟩
  · conv_lhs => rw [hb]
    rw [hb']
    unfold Machine.offerNotice evalAttn
    rw [hq, hq']
  · rw [hb', Bool.or_eq_true] at h
    rw [ha, Bool.or_eq_true]
    exact h.imp_left hl
  · -- a notice lost at this offer is one since the reply was formed, so the test leaves the flag it sets
    have hs : lostAfter (Machine.offerNotice n a) = ((a.lost || q)
        && !(decide (a.slot.kind = 2 ∧ a.slot.status = 0 ∧ a.slot.body.getD 7 0 = 1) && !(a.lostMarker || q))) := by
      rw [hq']; rfl
    rw [hb', hs, hlost]
    unfold lostAfter
    cases q <;> simp

theorem TakenLp.offerAll {a b : LinkPort} (h : TakenLp a b) (ns : List Notice) : TakenLp (offerAll ns a) (offerAll ns b) := by
  induction ns generalizing a b with
  | nil => exact h
  | cons n ns ih => exact ih (h.offerNotice n)

/-- An end report after a frame writes what it does without it (R198). -/
theorem ftEnd_taken {i : Fin 47} (hi : isTrailerEntry i = false) {v : State} {lp : LinkPort} (h : TakenLp v.lp lp) :
    ∃ lp', TakenLp (ftEnd i v).lp lp' ∧ ftEnd i { v with lp := lp } = { ftEnd i v with lp := lp' } := by
  refine ⟨offerAll (endedNote v i) lp, ?_, ?_⟩
  · rw [ftEnd_entry hi]
    exact h.offerAll _
  · rw [ftEnd_entry hi, ftEnd_entry hi v]
    rfl

/-- ENGINE_INFO_STALE_EXPIRY at or after its moment (R75). -/
theorem exec_engineInfoStaleExpiry {s : State} (hz : s.undelivered = 0) (hr : s.inRun = true)
    (hd : s.due s.me.engineStale = true) : exec .engineInfoStaleExpiry s = .next (engineExpires s) :=
  event_acts (by rw [hr, hd]; rfl) (by simpa using hz)

end Sys2Proof.Machine

open Sys2Proof Sys2Proof.Machine

/-- Settles O20: the handler on the state that the frame has written, by whether the record was stale, and the expiry. -/
theorem engineRecordIsStoredAndAges : Obligations.EngineRecordIsStoredAndAges := by
  unfold Obligations.EngineRecordIsStoredAndAges
  refine ⟨fun f s h hl => ?_, fun s hz hr hd => exec_engineInfoStaleExpiry hz hr hd⟩
  intro speed torque oil v
  have hz : (if s.me.engine.stale then ftEnd fEngineStale v else v).undelivered = 0 := by
    split
    · simpa using h.1
    · exact h.1
  refine answers_of_row rfl rfl (takeRequest_replied (handler := reqEngineInfo) h hz (by rw [hl]; rfl) fun lp hlp => ?_)
  have hstatus : (if speed = f.u16 0 ∧ torque = f.u16 2 ∧ oil = f.s16 4 then Status.ok else .okClamped)
      = if decide (speed = f.u16 0 ∧ torque = f.u16 2 ∧ oil = f.s16 4) then .ok else .okClamped := by
    simp only [decide_eq_true_eq]
  have hanswer : reqEngineInfo f { s with lp := lp } =
      ⟨if decide (speed = f.u16 0 ∧ torque = f.u16 2 ∧ oil = f.s16 4) then .ok else .okClamped,
        be16 speed ++ be16 torque ++ beInt oil,
        if s.me.engine.stale then ftEnd fEngineStale { v with lp := lp } else { v with lp := lp }⟩ := rfl
  rw [hanswer, hstatus]
  cases s.me.engine.stale with
  | false => exact ⟨lp, hlp, rfl⟩
  | true =>
    obtain ⟨lp', hlp', e⟩ := ftEnd_taken (i := fEngineStale) (v := v) (by decide) hlp
    exact ⟨lp', hlp', by rw [if_pos rfl, if_pos rfl, e]⟩
end

section
/-! SUPPORT. A motion update at the ME: the speeds, the plausibility tests and their reports, the slip ring, standstill, and the record
that they form (R63 to R72). -/

namespace Sys2Proof.Machine

open Sys2Proof

/-- A hold time is `d` old (R71). -/
theorem heldFor_iff (s : State) (t : Option Nat) (d : Nat) : s.heldFor t d = true ↔ ∃ h ∈ t, h + d ≤ s.time := by
  cases t <;> simp [State.heldFor]

/-! ### Speeds -/

theorem travelSpeed_eq (k : Nat) (p : Option Nat) : travelSpeed k p = p.elim 0 fun t => min 20000 (k * 1000 / t) := by
  cases p <;> rfl

theorem shaftSpeed_eq (ppr : Nat) (p : Option Nat) : shaftSpeed ppr p = p.elim 0 fun t => min 4000 (60000000 / (t * ppr)) := by
  cases p <;> rfl

/-- The period that an input reports (R61, R62). -/
theorem periodOf_eq (s : State) (i : Fin 4) :
    let p := s.mu.pulse.get i
    periodOf s i = if p.calibrated = true ∧ (i = 3 → p.present = true) ∧ p.state = .running then
      some (min 400000 (max p.period (s.time - p.lastEdge))) else none := by
  refine if_congr ?_ rfl rfl
  simp only [pulseReports, Bool.and_eq_true, Bool.or_eq_true, decide_eq_true_eq, and_assoc, imp_iff_not_or]
  rfl

/-! ### Plausibility -/

/-- A plausibility test: an input that is suspect stays so until its end test is met, and another becomes so where its condition has
held for `d`; the hold time runs from the first update that finds the condition, and goes with the condition or with the start (R71). -/
theorem plausibleAt_eq (s : State) (was : Bool) (hold : Option Nat) (cond ends : Bool) (d : Nat) :
    plausibleAt s was hold cond ends d =
      { suspect := if was then !ends else cond && s.heldFor hold d
        hold := if was then hold else if cond = true ∧ s.heldFor hold d = false then some (hold.getD s.time) else none
        starts := !was && (cond && s.heldFor hold d)
        ends := was && ends } := by
  unfold plausibleAt
  cases was with
  | true => rfl
  | false =>
    cases cond with
    | false => rfl
    | true =>
      cases hold with
      | none => rfl
      | some h => cases hh : s.heldFor (some h) d <;> rfl

/-- A plausibility test finds a start or an end where the suspect state changes (R71). -/
theorem plausibleAt_changes (s : State) (was : Bool) (hold : Option Nat) (cond ends : Bool) (d : Nat) :
    let p := plausibleAt s was hold cond ends d
    p.starts = (!was && p.suspect) ∧ p.ends = (was && !p.suspect) := by
  rw [plausibleAt_eq]
  cases was <;> simp

/-- The fault entry after the report of a plausibility test at time `t` (R71). -/
def suspectEntry (t d : Nat) (before after : Bool) (e : FaultEntry) : FaultEntry :=
  if before = after then e else if after = true then startedAt t d e else endedAt t e

/-- The notice of the report of a plausibility test (R71). -/
def suspectNote (s : State) (i : Fin 47) (before after : Bool) (d : Nat) : List Notice :=
  if before = after then [] else if after = true then raisedNote s i d else endedNote s i

/-- The report of a plausibility test writes its entry and posts its notice (R71). -/
theorem plausibleReport_eq {i : Fin 47} (hi : isTrailerEntry i = false) (d : Nat) {p : Plausible} {was : Bool}
    (hp : p.starts = (!was && p.suspect) ∧ p.ends = (was && !p.suspect)) (s : State) : plausibleReport i d p s = { s with
      lp := offerAll (suspectNote s i was p.suspect d) s.lp
      ft := s.ft.set i (suspectEntry s.time d was p.suspect s.ft[i]) } := by
  obtain ⟨hstarts, hends⟩ := hp
  unfold plausibleReport suspectNote suspectEntry
  rw [hstarts, hends]
  have hsame : s = { s with lp := offerAll [] s.lp, ft := s.ft.set i s.ft[i] } := by rw [entry_set_self]; rfl
  cases was <;> cases p.suspect
  · exact hsame
  · exact ftStart_entry hi d s
  · exact ftEnd_entry hi s
  · exact hsame

/-- The plausibility test of INPUT (R72). -/
def inputTest (v : Speeds) (s : State) : Plausible :=
  plausibleAt s s.me.pub.inputSuspect s.me.inputHold (inputCondition s.sc.pub v) (decide (0 < v.nIn)) 500000

/-- The plausibility test of FRONT (R72). -/
def frontTest (v : Speeds) (s : State) : Plausible :=
  plausibleAt s s.me.pub.frontSuspect s.me.frontHold (frontCondition v) (decide (300 ≤ v.vR) && ratioAgrees v.ratio) 2000000

/-- The plausibility test of RADAR (R72). -/
def radarTest (v : Speeds) (s : State) : Plausible :=
  plausibleAt s s.me.pub.radarSuspect s.me.radarHold
    (radarCondition (s.mu.pulse.get 3).present (frontTest v s).suspect v) (decide (0 < v.vRaw)) 2000000

/-- The ME with the results of the three plausibility tests (R71). -/
def plausibleMotion (v : Speeds) (s : State) : Motion := { s.me with
  inputHold := (inputTest v s).hold, frontHold := (frontTest v s).hold, radarHold := (radarTest v s).hold
  pub := { s.me.pub with
    inputSuspect := (inputTest v s).suspect, frontSuspect := (frontTest v s).suspect
    radarSuspect := (radarTest v s).suspect } }

/-- The notices of the three plausibility tests, INPUT, FRONT, RADAR (R71). -/
def plausibleNotes (v : Speeds) (s : State) : List Notice :=
  suspectNote s fInput s.me.pub.inputSuspect (inputTest v s).suspect v.nOut
    ++ suspectNote s fFront s.me.pub.frontSuspect (frontTest v s).suspect v.ratio
    ++ suspectNote s fRadar s.me.pub.radarSuspect (radarTest v s).suspect v.vR

/-- The fault table after the three plausibility tests (R71). -/
def plausibleEntries (v : Speeds) (s : State) : Vector FaultEntry 47 :=
  ((s.ft.set fInput (suspectEntry s.time v.nOut s.me.pub.inputSuspect (inputTest v s).suspect s.ft[fInput])).set
    fFront (suspectEntry s.time v.ratio s.me.pub.frontSuspect (frontTest v s).suspect s.ft[fFront])).set
    fRadar (suspectEntry s.time v.vR s.me.pub.radarSuspect (radarTest v s).suspect s.ft[fRadar])

/-- The notice of a report depends on its own entry and the time alone. -/
theorem suspectNote_congr {s u : State} {i : Fin 47} (ht : u.time = s.time) (he : u.ft[i] = s.ft[i]) (before after : Bool) (d : Nat) :
    suspectNote u i before after d = suspectNote s i before after d := by
  unfold suspectNote raisedNote endedNote noticeOf
  rw [ht, he]

/-- The three plausibility tests write the ME, their entries and their notices (R63, R71). -/
theorem plausibility_eq (v : Speeds) (s : State) : plausibility v s = { s with
    me := plausibleMotion v s, lp := offerAll (plausibleNotes v s) s.lp, ft := plausibleEntries v s } := by
  have hunfold : plausibility v s = plausibleReport fRadar v.vR (radarTest v s) (plausibleReport fFront v.ratio (frontTest v s)
      (plausibleReport fInput v.nOut (inputTest v s) { s with me := plausibleMotion v s })) := rfl
  rw [hunfold, plausibleReport_eq (p := radarTest v s) (by decide) _ (plausibleAt_changes _ _ _ _ _ _),
    plausibleReport_eq (p := frontTest v s) (by decide) _ (plausibleAt_changes _ _ _ _ _ _),
    plausibleReport_eq (p := inputTest v s) (by decide) _ (plausibleAt_changes _ _ _ _ _ _)]
  unfold plausibleNotes plausibleEntries
  rw [offerAll_append, offerAll_append]
  dsimp only
  have hfront : ∀ e : FaultEntry, (s.ft.set fInput e)[fFront] = s.ft[fFront] := entry_set_other _ (by decide)
  have hradar : ∀ e e' : FaultEntry, ((s.ft.set fInput e).set fFront e')[fRadar] = s.ft[fRadar] := fun e e' =>
    (entry_set_other _ (by decide) _).trans (entry_set_other _ (by decide) _)
  congr 1
  · congr 1
    · refine suspectNote_congr ?_ ?_ _ _ _
      · rfl
      · exact hradar _ _
    · congr 1
      refine suspectNote_congr ?_ ?_ _ _ _
      · rfl
      · exact hfront _
  · rw [hradar, hfront]

/-! ### The record -/

/-- The ring and the time of its last sample: a sample is appended, the oldest of eight removed, and a ring whose last sample is 100 ms
old is emptied (R67, R68). -/
theorem ringAfter_eq (s : State) (vGValid : Bool) (vR vG : Nat) : ringAfter s (slipSample vGValid vR vG) =
    if vGValid = true ∧ 300 ≤ vR then
      ((if s.me.ring.length < 8 then s.me.ring else s.me.ring.tail) ++ [if vR ≤ vG then 0 else (vR - vG) * 1000 / vR], some s.time)
    else (if s.heldFor s.me.lastSample 100000 then [] else s.me.ring, s.me.lastSample) := by
  unfold slipSample
  cases vGValid with
  | false => rfl
  | true =>
    by_cases h : vR < 300
    · rw [if_pos (.inr h), if_neg (show ¬(true = true ∧ 300 ≤ vR) from fun x => Nat.not_le.2 h x.2)]
      rfl
    · rw [if_neg (show ¬(true = false ∨ vR < 300) by simpa using h), if_pos (show true = true ∧ 300 ≤ vR from ⟨rfl, Nat.not_lt.1 h⟩)]
      by_cases hg : vR ≤ vG
      · rw [if_pos hg, if_pos hg]; rfl
      · rw [if_neg hg, if_neg hg]; rfl

theorem slipOf_eq (ring : List Nat) : slipOf ring =
    (if 4 ≤ ring.length then ring.sum / ring.length else 0, decide (4 ≤ ring.length)) := by
  unfold slipOf
  split <;> simp [*]

/-- Standing still since a time that this update may itself begin is `d` old only where that time ran before (R70). -/
theorem heldFor_since (s : State) (still : Bool) (t : Option Nat) {d : Nat} (hd : 0 < d) :
    s.heldFor (if still then some (t.getD s.time) else none) d = (still && s.heldFor t d) := by
  cases still with
  | false => rfl
  | true =>
    cases t with
    | some h => rfl
    | none => exact decide_eq_false (by simp; omega)

/-- The part with the motion record formed, before the SC takes it (R63). -/
def motionFormed (s : State) : State :=
  formMotion (speedsOf s) (plausibility (speedsOf s) { s with me := { s.me with updateDue := s.me.updateDue.map (· + 10000) } })

theorem motionUpdate_eq (s : State) : motionUpdate s = tbcOnMotion (fdmEvaluate true (scOnMotion (motionFormed s))) := rfl

/-- MOTION_UPDATE at or after its moment (R63). -/
theorem exec_motionUpdate {s : State} (hr : s.inRun = true) (hd : s.due s.me.updateDue = true) :
    exec .motionUpdate s = .next (settle (motionUpdate s)) :=
  event_settles (act := motionUpdate) (by rw [hr, hd]; rfl)

/-- What is formed writes the ME, the entries and notices of the plausibility tests and nothing else (R63). -/
theorem motionFormed_eq (s : State) : motionFormed s = { s with
    me := (motionFormed s).me, lp := offerAll (plausibleNotes (speedsOf s) s) s.lp, ft := plausibleEntries (speedsOf s) s } := by
  unfold motionFormed formMotion
  rw [plausibility_eq]
  rfl

end Sys2Proof.Machine
end

section
/-! O53: the record of a motion update. -/

namespace Sys2Proof.Machine

open Sys2Proof

theorem inputCondition_eq (d : Driveline) (v : Speeds) : inputCondition d v
    = decide ((d.state = .idle ∧ d.dir ≠ .n ∧ d.gear ≠ 0) ∧ 200 < v.nOut ∧ v.nIn = 0) := by
  unfold inputCondition Driveline.locked
  rw [← Bool.decide_and]

theorem frontCondition_eq (v : Speeds) : frontCondition v
    = decide (1000 < v.vR ∧ ¬(500 ≤ v.ratio ∧ v.ratio ≤ 1500)) := by
  unfold frontCondition ratioAgrees inRange
  rw [← decide_not, ← Bool.decide_and]

theorem radarCondition_eq (present suspect : Bool) (v : Speeds) : radarCondition present suspect v
    = decide (present = true ∧ suspect = false ∧ (500 ≤ v.ratio ∧ v.ratio ≤ 1500) ∧ v.vRaw = 0 ∧ 2000 < v.vR) := by
  unfold radarCondition ratioAgrees inRange
  cases present <;> cases suspect <;> simp

/-- The ME after a motion update, from the speeds and the results of the plausibility tests (R63 to R72). -/
theorem motionFormed_me (s : State) :
    let v := speedsOf s
    let p := inputTest v s
    let q := frontTest v s
    let r := radarTest v s
    let vGValid := (s.mu.pulse.get 3).present && !r.suspect
    let ring := ringAfter s (slipSample vGValid v.vR v.vRaw)
    let still := decide (v.vR < 100 ∧ (v.vRaw < 100 ∨ vGValid = false))
    (motionFormed s).me = { s.me with
      pub := { time := s.time, vR := v.vR, vF := v.vF, vG := v.vRaw, vGValid := vGValid, nIn := v.nIn, nOut := v.nOut
               slip := (slipOf ring.1).1, slipValid := (slipOf ring.1).2, ringEntries := ring.1.length
               lead := v.ratio, leadValid := decide (300 ≤ v.vR) && !q.suspect
               standstill := still && s.heldFor s.me.standSince 500000, dir := s.sc.pub.dir
               inputSuspect := p.suspect, frontSuspect := q.suspect, radarSuspect := r.suspect }
      ring := ring.1, lastSample := ring.2, standSince := if still then some (s.me.standSince.getD s.time) else none
      inputHold := p.hold, frontHold := q.hold, radarHold := r.hold
      updateDue := s.me.updateDue.map (· + 10000) } := by
  intro v p q r vGValid ring still
  rw [← heldFor_since s still s.me.standSince (by decide)]
  unfold motionFormed formMotion
  rw [plausibility_eq]
  rfl

/-- The end of a motion update writes no motion record (R63). -/
theorem motionUpdate_me (s : State) : (settle (motionUpdate s)).me = (motionFormed s).me := by
  rw [motionUpdate_eq]
  simp

theorem motionUpdate_hc (s : State) : (settle (motionUpdate s)).hc = s.hc := by
  obtain ⟨hhc, -⟩ := settle_keeps (motionUpdate s)
  rw [hhc, motionUpdate_eq]
  simp [motionFormed]

end Sys2Proof.Machine

open Sys2Proof Sys2Proof.Machine

/-- Settles O53: the speeds from the periods, then each test and history value of the update from the speeds, as the ME's record
shows them. -/
theorem motionUpdatesFormTheRecord : Obligations.MotionUpdatesFormTheRecord := by
  unfold Obligations.MotionUpdatesFormTheRecord
  intro s hz hr hd old pulse period travel shaft vR vF vG nOut nIn ratio agrees held locked radar suspect holdTime inputHolds
    inputSuspect frontHolds frontSuspect radarHolds radarSuspect vGValid sampled ring still
  have hperiod : ∀ i, periodOf s i = period i := periodOf_eq s
  have hspeeds : speedsOf s = ⟨vR, vF, vG, nIn, nOut, ratio⟩ := by
    unfold speedsOf
    simp only [travelSpeed_eq, shaftSpeed_eq, hperiod]
    rfl
  have hheld : ∀ t d, s.heldFor t d = decide (held t d) := fun t d => by
    rw [Bool.eq_iff_iff, heldFor_iff, decide_eq_true_iff]
  have hsuspect : ∀ was holds ends hold d, (plausibleAt s was hold holds ends d).suspect = suspect was holds ends hold d :=
    fun was holds ends hold d => by rw [plausibleAt_eq, hheld]
  have hhold : ∀ was holds ends hold d, (plausibleAt s was hold holds ends d).hold = holdTime was holds hold d :=
    fun was holds ends hold d => by
      rw [plausibleAt_eq, hheld]
      simp only [decide_eq_false_iff_not]
      rfl
  have hinput : inputTest (speedsOf s) s = plausibleAt s old.pub.inputSuspect old.inputHold inputHolds (decide (0 < nIn)) 500000 := by
    unfold inputTest
    rw [hspeeds, inputCondition_eq]
  have hfront : frontTest (speedsOf s) s
      = plausibleAt s old.pub.frontSuspect old.frontHold frontHolds (decide (300 ≤ vR ∧ agrees)) 2000000 := by
    unfold frontTest ratioAgrees inRange
    rw [hspeeds, frontCondition_eq, ← Bool.decide_and]
  have hradar : radarTest (speedsOf s) s
      = plausibleAt s old.pub.radarSuspect old.radarHold radarHolds (decide (0 < vG)) 2000000 := by
    unfold radarTest
    rw [hfront, hsuspect, hspeeds, radarCondition_eq]
  have hvalid : ((s.mu.pulse.get 3).present && !(radarTest (speedsOf s) s).suspect) = vGValid := by
    rw [hradar, hsuspect]
  have hring : ringAfter s (slipSample vGValid vR vG) = (ring, if sampled then some s.time else old.lastSample) := by
    rw [ringAfter_eq, hheld]
    simp only [decide_eq_true_eq]
    by_cases h : sampled
    · exact (if_pos h).trans (Prod.ext (if_pos h).symm (if_pos h).symm)
    · exact (if_neg h).trans (Prod.ext (if_neg h).symm (if_neg h).symm)
  have hstill : (decide still && s.heldFor old.standSince 500000) = decide (still ∧ held old.standSince 500000) := by
    rw [hheld]
    exact (Bool.decide_and still _).symm
  refine ⟨_, exec_motionUpdate hr hd, ?_, by simp, by simp, by simp, motionUpdate_hc s⟩
  rw [motionUpdate_me, motionFormed_me, hvalid, hinput, hfront, hradar, hspeeds, hring, hstill]
  simp only [hsuspect, hhold, slipOf_eq, decide_eq_true_eq]
  rfl
end

section
/-! SUPPORT. A motion update at the SC and the TBC: the slip test of a locked gear, the end of RECOVERY_FAILED, the abort of a line check
on the move, and the change to PARK at standstill (R129, R131, R183, R192, R195). -/

namespace Sys2Proof.Machine

open Sys2Proof

/-! ### The SC -/

/-- A locked gear slips: IDLE in a gear, the input off the output's speed by more than three times W_sync (R131). -/
abbrev Slips (s : State) : Prop :=
  s.sc.pub.state = .idle ∧ s.sc.pub.dir ≠ .n ∧ 200 < s.me.pub.nOut ∧ s.me.pub.inputSuspect = false
    ∧ 3 * s.sc.wSync
      < ((s.me.pub.nIn : Int) - (s.me.pub.nOut * (gearAt s.sc.gears s.sc.pub.gear).ratio / 1000 : Nat)).natAbs

/-- The time from which the slip has held (R131). -/
def slipSince (s : State) : Nat := s.sc.slipHold.getD s.time

/-- CLUTCH_SLIP after the slip test (R131). -/
def slipEntry (s : State) : FaultEntry :=
  if Slips s then
    if slipSince s + 200000 ≤ s.time then startedAt s.time s.sc.pub.gear s.ft[fClutchSlip] else s.ft[fClutchSlip]
  else endedAt s.time s.ft[fClutchSlip]

/-- The notices of the slip test (R131). -/
def slipNotes (s : State) : List Notice :=
  if Slips s then if slipSince s + 200000 ≤ s.time then raisedNote s fClutchSlip s.sc.pub.gear else []
  else endedNote s fClutchSlip

theorem slips_iff (s : State) : s.sc.pub.state = .idle ∧ s.sc.pub.dir ≠ .n ∧ slipCondition s = true ↔ Slips s := by
  simp only [slipCondition, speedsAgree, Bool.and_eq_true, Bool.not_eq_true', decide_eq_true_eq, decide_eq_false_iff_not,
    Nat.not_le, and_assoc]

/-- The slip test writes its hold time, CLUTCH_SLIP and its notice (R131). -/
theorem slipTest_eq (s : State) : slipTest s = { s with
    sc := { s.sc with slipHold := if Slips s then some (slipSince s) else none }
    lp := offerAll (slipNotes s) s.lp, ft := s.ft.set fClutchSlip (slipEntry s) } := by
  unfold slipTest slipNotes slipEntry
  by_cases h : Slips s
  · rw [if_pos ((slips_iff s).2 h), if_pos h, if_pos h, if_pos h]
    by_cases hh : slipSince s + 200000 ≤ s.time
    · rw [if_pos hh, if_pos hh]
      exact (if_pos (decide_eq_true hh)).trans (ftStart_entry (by decide) _ _)
    · rw [if_neg hh, if_neg hh, entry_set_self]
      exact if_neg fun x => hh (of_decide_eq_true x)
  · rw [if_neg (fun x => h ((slips_iff s).1 x)), if_neg h, if_neg h, if_neg h]
    exact ftEnd_entry (by decide) _

/-- RECOVERY_FAILED after a motion update (R129). -/
def recoveryEntry (s : State) : FaultEntry :=
  if s.me.pub.standstill = true then endedAt s.time s.ft[fRecoveryFailed] else s.ft[fRecoveryFailed]

/-- What the SC makes of a motion update: the slip test, and then RECOVERY_FAILED (R129, R131). -/
theorem scOnMotion_eq (s : State) : scOnMotion s = { s with
    sc := { s.sc with slipHold := if Slips s then some (slipSince s) else none }
    lp := offerAll (slipNotes s ++ if s.me.pub.standstill = true then endedNote s fRecoveryFailed else []) s.lp
    ft := (s.ft.set fClutchSlip (slipEntry s)).set fRecoveryFailed (recoveryEntry s) } := by
  have hentry : (s.ft.set fClutchSlip (slipEntry s))[fRecoveryFailed] = s.ft[fRecoveryFailed] := entry_set_other _ (by decide) _
  unfold scOnMotion recoveryEntry
  rw [slipTest_eq]
  dsimp only
  by_cases h : s.me.pub.standstill = true
  · rw [if_pos h, if_pos h, if_pos h, ftEnd_entry (by decide), offerAll_append]
    unfold endedNote
    rw [hentry]
  · rw [if_neg h, if_neg h, if_neg h, List.append_nil, ← hentry, entry_set_self]

/-! ### The TBC -/

/-- On the move the TBC aborts a line check (R192). -/
theorem tbcOnMotion_eq_of_moving {s : State} (h : s.me.pub.standstill = false) : tbcOnMotion s = tbcFinish (checkAbort s) := by
  unfold tbcOnMotion
  rw [h]
  rfl

/-- At standstill without the policy pressure the TBC changes nothing (R192, R195). -/
theorem tbcOnMotion_eq_of_standing {s : State} (h : s.me.pub.standstill = true) (hp : s.tbc.cur.policyOn = false) :
    tbcOnMotion s = tbcFinish s := by
  unfold tbcOnMotion
  rw [h]
  simp only [if_true, hp, Bool.and_false, Bool.false_eq_true, if_false]

/-- At standstill with the policy pressure applied the TBC changes to PARK (R195). -/
theorem tbcOnMotion_eq_of_parking {s : State} (h : s.me.pub.standstill = true) (hp : s.tbc.cur.policyOn = true) :
    tbcOnMotion s = tbcFinish (policyPark s) := by
  unfold tbcOnMotion
  rw [h]
  simp only [if_true, hp, Bool.and_true]

/-- With no line check running there is none to abort (R192). -/
theorem checkAbort_idle {s : State} (h : s.tbc.cur.check = .idle) : checkAbort s = s :=
  if_neg (by simp [BrakeRecord.checking, h])

/-- No line check runs after its abort, and the mode and the presence of a trailer stand (R192). -/
theorem checkAbort_cur (s : State) : (checkAbort s).tbc.cur.check = .idle ∧ (checkAbort s).tbc.cur.mode = s.tbc.cur.mode
    ∧ (checkAbort s).tbc.cur.present = s.tbc.cur.present := by
  obtain ⟨hcheck, hmode, -⟩ := checkAborted_keeps s.tbc.cur
  have hpresent : (checkAborted s.tbc.cur).present = s.tbc.cur.present := by
    unfold checkAborted
    split <;> rfl
  rw [checkAbort_eq]
  exact ⟨hcheck, hmode, hpresent⟩

/-- The change to PARK begins with the abort of a line check (R183). -/
theorem policyPark_aborts (s : State) : policyPark s = policyPark (checkAbort s) := by
  obtain ⟨hcheck, -, hpresent⟩ := checkAbort_cur s
  unfold policyPark applyMode
  rw [hpresent, checkAbort_idle hcheck]

/-- The brake record of a trailer that is in PARK already, as a change to PARK leaves it (R183, R185). -/
def parkedAgain (b : BrakeRecord) : BrakeRecord := { b with preBrake := .off, supp := .vented }

/-- The brake record that the change to PARK at standstill leaves, but for P_cmd: the line vented, the policy pressure cleared, and a
charge window closed where the mode has changed (R183, R185, R186, R195). -/
def policyParked (b : BrakeRecord) : BrakeRecord := { b with
  mode := .park, check := .idle, outcome := if b.check = .idle then b.outcome else .aborted, policyOn := false, preBrake := .off
  supp := .vented, chargeOpen := b.chargeOpen && decide (b.mode = .park) }

theorem policyParked_moved {b : BrakeRecord} (h : b.mode ≠ .park) :
    { parked (checkAborted b) with policyOn := false } = policyParked b := by
  rw [parked_checkAborted]
  unfold policyParked
  rw [decide_eq_false h, Bool.and_false]

theorem policyParked_again {b : BrakeRecord} (h : b.mode = .park) :
    { parkedAgain (checkAborted b) with policyOn := false } = policyParked b := by
  unfold policyParked parkedAgain checkAborted
  rw [decide_eq_true h, Bool.and_true]
  by_cases hc : b.check = .idle
  · rw [if_pos hc, if_pos hc, ← hc, ← h]
  · rw [if_neg hc, if_neg hc, ← h]

/-- A change to PARK from PARK opens and closes no charge window (R186). -/
theorem chargeAct_stays {old : BrakeRecord} {s : State} (ho : old.mode = .park) (h : s.tbc.cur.mode = .park)
    (hp : s.tbc.cur.present = old.present) : chargeAct old s = s := by
  unfold chargeAct
  dsimp only
  rw [if_neg (by simp [h]), if_neg (by simp [ho, hp])]

/-- The change to PARK at standstill from PARK, with no line check running (R183, R195). -/
theorem policyPark_again {s : State} (hm : s.tbc.cur.mode = .park) (hc : s.tbc.cur.check = .idle) :
    policyPark s = modBrake (fun b => { b with policyOn := false })
      (post .trailerModeChanged TrailerMode.park.code s.tbc.cur.present.toNat
        { s with tbc := { s.tbc with runOut := none, cur := parkedAgain s.tbc.cur } }) := by
  have hv : (s.tbc.cur.verified && !(s.tbc.cur.present && !s.tbc.cur.present)) = s.tbc.cur.verified := by
    cases s.tbc.cur.present <;> simp
  have hp : modBrake (fun b => { b with
      mode := .park, present := s.tbc.cur.present
      verified := b.verified && !(s.tbc.cur.present && !s.tbc.cur.present) }) s = s := by
    unfold modBrake
    dsimp only
    rw [hv, ← hm]
  have hcharge := chargeAct_stays (s := { s with tbc := { s.tbc with runOut := none, cur := parkedAgain s.tbc.cur } }) hm hm rfl
  unfold policyPark applyMode
  dsimp only
  rw [checkAbort_idle hc, hp, preBrakeMode_off (by rw [hm]; exact TrailerMode.noConfusion),
    tbcSuppEnter_vented (by simp [BrakeRecord.vents, BrakeRecord.checking, hc, hm])]
  exact congrArg (fun u => modBrake (fun b => { b with policyOn := false })
    (post .trailerModeChanged TrailerMode.park.code s.tbc.cur.present.toNat u)) hcharge

/-- The change to PARK at standstill forms its record from either mode (R183, R195). -/
theorem BrakeForms.policyParks {after : BrakeRecord} {s0 s : State} (h : BrakeForms after s0 s) :
    BrakeForms (policyParked after) s0 (Machine.policyPark s) := by
  have ha := h.checkAbort
  obtain ⟨hcheck, hmode, -⟩ := checkAbort_cur s
  have hm : s.tbc.cur.mode = after.mode := by rw [h.cur]
  rw [hm] at hmode
  rw [policyPark_aborts]
  by_cases hp : after.mode = .park
  · rw [policyPark_again (hmode.trans hp) hcheck, ← policyParked_again hp]
    have hagain : BrakeForms (parkedAgain (checkAborted after)) s0 { Machine.checkAbort s with
        tbc := { (Machine.checkAbort s).tbc with runOut := none, cur := parkedAgain (Machine.checkAbort s).tbc.cur } } := by
      refine ha.edit ⟨rfl, rfl⟩ rfl ?_ ⟨rfl, rfl⟩ (.inl rfl)
      show parkedAgain (Machine.checkAbort s).tbc.cur = { parkedAgain (checkAborted after) with
        time := (Machine.checkAbort s).tbc.cur.time, preBrake := .off, pCmd := (Machine.checkAbort s).tbc.cur.pCmd }
      rw [ha.cur]
      rfl
    exact ((BrakeForms.tame _ s0).post hagain _ _ _).policy false
  · rw [← policyParked_moved hp]
    exact ha.policyPark (fun x => hp (hmode.symm.trans x)) hcheck

/-- An end report of an entry that is not ACTIVE changes nothing (R198). -/
theorem ftEnd_idle {i : Fin 47} {s : State} (h : (s.ft[i]).state ≠ .active) : ftEnd i s = s := by
  unfold ftEnd
  dsimp only
  split
  · contradiction
  all_goals rfl

/-- The gear window posts two notices at most (R107, R109). -/
theorem windowNotes_length (s : State) (b : BrakeRecord) (capped : Bool) : (windowNotes s b capped).length ≤ 2 := by
  unfold windowNotes
  extract_lets
  rw [List.length_append]
  refine Nat.add_le_add (b := 1) (d := 1) ?_ ?_ <;> split <;> simp

/-- The notice of the abort of a line check, none where no check runs (R192). -/
abbrev abortedNote (s : State) : List Notice :=
  if s.tbc.cur.check = .idle then [] else [noticeOf s .lineCheckResult 1 .tbc 2 0]

/-- The notice of the change to PARK (R183). -/
abbrev parkNote (s : State) : Notice := noticeOf s .trailerModeChanged 0 .tbc 0 s.tbc.cur.present.toNat

/-- The end of TRL_SUPP_LOW, where it was ACTIVE, posts three notices at most (R106, R198). -/
theorem ftEnd_suppLow_notes {s : State} (hr : s.inRun = true) :
    ∃ ns, ns.length ≤ 3 ∧ (ftEnd fSuppLow s).lp = offerAll ns s.lp := by
  by_cases ha : (s.ft[fSuppLow]).state = .active
  · refine ⟨_, ?_, ftEnd_trailer (by decide) hr ha⟩
    have hw := windowNotes_length s s.tbc.pub true
    unfold endedNote
    rw [if_pos ha, List.length_append, List.length_singleton]
    omega
  · exact ⟨[], by decide, by rw [ftEnd_idle ha]; rfl⟩

/-- The change to PARK posts its notice last, after those of the line check and of the end of TRL_SUPP_LOW (R183, R187, R193). -/
theorem policyPark_notes {s : State} (hr : s.inRun = true) :
    ∃ ns, ns.length ≤ 4 ∧ (policyPark s).lp = offerAll (ns ++ [parkNote s]) s.lp
      ∧ (s.tbc.cur.mode = .park ∨ (s.ft[fSuppLow]).state ≠ .active → (policyPark s).ft = s.ft ∧ ns = abortedNote s) := by
  obtain ⟨hcheck, hmode, hpresent⟩ := checkAbort_cur s
  have hlp : (checkAbort s).lp = offerAll (abortedNote s) s.lp := by rw [checkAbort_eq]
  have hft : (checkAbort s).ft = s.ft := by rw [checkAbort_eq]
  have htime : (checkAbort s).time = s.time := by simp
  have hlen : (abortedNote s).length ≤ 1 := by
    unfold abortedNote
    split <;> simp
  rw [policyPark_aborts]
  by_cases hm : s.tbc.cur.mode = .park
  · refine ⟨abortedNote s, by omega, ?_, fun _ => ⟨?_, rfl⟩⟩ <;> rw [policyPark_again (hmode.trans hm) hcheck]
    · rw [offerAll_append, ← hlp, hpresent]
      show offerNotice _ (checkAbort s).lp = _
      rw [htime]
      rfl
    · exact hft
  · obtain ⟨x, hx⟩ : ∃ x : State, x = { checkAbort s with tbc := parkedBrake (checkAbort s).tbc } := ⟨_, rfl⟩
    have hxr : x.inRun = true := by rw [hx]; simpa [State.inRun] using hr
    have hxlp : x.lp = offerAll (abortedNote s) s.lp := by rw [hx]; exact hlp
    have hxft : x.ft = s.ft := by rw [hx]; exact hft
    have hxtime : (ftEnd fSuppLow x).time = s.time := by rw [← htime]; simp [hx]
    have hpark : policyPark (checkAbort s) = modBrake (fun b => { b with policyOn := false })
        (post .trailerModeChanged TrailerMode.park.code s.tbc.cur.present.toNat (ftEnd fSuppLow x)) := by
      rw [policyPark_eq (fun y => hm (hmode.symm.trans y)) hcheck, ← hx, hpresent]
    have hposted : (policyPark (checkAbort s)).lp = offerNotice (parkNote s) (ftEnd fSuppLow x).lp := by
      rw [hpark]
      show offerNotice _ (ftEnd fSuppLow x).lp = _
      rw [hxtime]
      rfl
    have hlow : (policyPark (checkAbort s)).ft = (ftEnd fSuppLow x).ft := by rw [hpark]; rfl
    by_cases ha : (s.ft[fSuppLow]).state = .active
    · obtain ⟨ns, hns, e⟩ := ftEnd_suppLow_notes hxr
      refine ⟨abortedNote s ++ ns, ?_, ?_, fun y => absurd ha (y.resolve_left hm)⟩
      · rw [List.length_append]; omega
      · rw [hposted, e, hxlp, offerAll_append, offerAll_append]
        rfl
    · have he : ftEnd fSuppLow x = x := ftEnd_idle (by rw [hxft]; exact ha)
      refine ⟨abortedNote s, by omega, ?_, fun _ => ⟨?_, rfl⟩⟩
      · rw [hposted, he, hxlp, offerAll_append]
        rfl
      · rw [hlow, he, hxft]

/-- The change to PARK stops the stage timer with a running line check (R192). -/
theorem policyPark_stage (s : State) : (policyPark s).tbc.stage = if s.tbc.cur.check = .idle then s.tbc.stage else none := by
  obtain ⟨hcheck, hmode, -⟩ := checkAbort_cur s
  have ha : (checkAbort s).tbc.stage = if s.tbc.cur.check = .idle then s.tbc.stage else none := by rw [checkAbort_eq]
  rw [policyPark_aborts, ← ha]
  by_cases hm : s.tbc.cur.mode = .park
  · rw [policyPark_again (hmode.trans hm) hcheck]; rfl
  · rw [policyPark_eq (fun y => hm (hmode.symm.trans y)) hcheck]
    have tame := stage_tame (checkAbort s).tbc.stage
    exact tame.post (tame.ftEnd (s := { checkAbort s with tbc := parkedBrake (checkAbort s).tbc }) rfl trivial) _ _ _

/-- The change to PARK leaves no run-out (R183, R189). -/
theorem policyPark_runOut (s : State) : (policyPark s).tbc.runOut = none := by
  obtain ⟨hcheck, hmode, -⟩ := checkAbort_cur s
  rw [policyPark_aborts]
  by_cases hm : s.tbc.cur.mode = .park
  · rw [policyPark_again (hmode.trans hm) hcheck]; rfl
  · obtain ⟨-, -, hrunOut, -⟩ := policyPark_rests (fun y => hm (hmode.symm.trans y)) hcheck
    exact hrunOut

/-- A change of mode to PARK closes the charge window and the low hold, and ends an ACTIVE TRL_SUPP_LOW (R186, R187). -/
theorem policyPark_moved {s : State} (hm : s.tbc.cur.mode ≠ .park) :
    (policyPark s).tbc.charge = none ∧ (policyPark s).tbc.lowHold = none
      ∧ ((s.ft[fSuppLow]).state = .active → ((policyPark s).ft[fSuppLow]).state = .latched) := by
  obtain ⟨hcheck, hmode, -⟩ := checkAbort_cur s
  have hm' : (checkAbort s).tbc.cur.mode ≠ .park := fun y => hm (hmode.symm.trans y)
  have hft : (checkAbort s).ft = s.ft := by rw [checkAbort_eq]
  rw [policyPark_aborts]
  obtain ⟨-, -, -, hcharge, hlow⟩ := policyPark_rests hm' hcheck
  exact ⟨hcharge, hlow, fun h => policyPark_low hm' hcheck (by rw [hft]; exact h)⟩

end Sys2Proof.Machine
end

section
/-! O54: a motion update at the jobs that take it. -/

namespace Sys2Proof.Machine

open Sys2Proof

/-! ### The reports of the plausibility tests -/

/-- What an entry shows that the report of a plausibility test has left, by the change of the suspect state (R71, R197, R198). -/
theorem suspectEntry_shows {t d : Nat} {before after : Bool} {e x : FaultEntry} (h : x = suspectEntry t d before after e) :
    (before = after → x = e)
      ∧ (before = false → after = true → x.state = .active ∧ (e.state ≠ .active → x.detail = BitVec.ofNat 16 d))
      ∧ (before = true → after = false → x = endedAt t e) := by
  refine ⟨fun hs => h.trans (if_pos hs), fun hb ha => ?_, fun hb ha => ?_⟩ <;> subst hb ha
  · have hx : x = startedAt t d e := h
    rw [hx]
    exact ⟨startedAt_active t d e, startedAt_detail t d⟩
  · exact h

/-- The fault table after the three plausibility tests, entry by entry (R71). -/
theorem plausibleEntries_at (v : Speeds) (s : State) :
    let ft := plausibleEntries v s
    ft[fInput] = suspectEntry s.time v.nOut s.me.pub.inputSuspect (inputTest v s).suspect s.ft[fInput]
      ∧ ft[fFront] = suspectEntry s.time v.ratio s.me.pub.frontSuspect (frontTest v s).suspect s.ft[fFront]
      ∧ ft[fRadar] = suspectEntry s.time v.vR s.me.pub.radarSuspect (radarTest v s).suspect s.ft[fRadar]
      ∧ ∀ i : Fin 47, i ≠ fInput → i ≠ fFront → i ≠ fRadar → ft[i] = s.ft[i] := by
  unfold plausibleEntries
  refine ⟨?_, ?_, entry_set_same _ _ _, fun i hinput hfront hradar => ?_⟩
  · rw [entry_set_other _ (by decide), entry_set_other _ (by decide), entry_set_same]
  · rw [entry_set_other _ (by decide), entry_set_same]
  · rw [entry_set_other _ hradar.symm, entry_set_other _ hfront.symm, entry_set_other _ hinput.symm]

/-- The values of the motion record that the reports carry (R71). -/
theorem motionFormed_reported (s : State) :
    let v := speedsOf s
    let m := (motionFormed s).me.pub
    m.inputSuspect = (inputTest v s).suspect ∧ m.frontSuspect = (frontTest v s).suspect
      ∧ m.radarSuspect = (radarTest v s).suspect ∧ m.nOut = v.nOut ∧ m.lead = v.ratio ∧ m.vR = v.vR := by
  intro v m
  have h : m = _ := congrArg Motion.pub (motionFormed_me s)
  rw [h]
  exact ⟨rfl, rfl, rfl, rfl, rfl, rfl⟩

/-! ### The SC's entries -/

/-- CLUTCH_SLIP and RECOVERY_FAILED after a motion update, and every other entry (R129, R131). -/
theorem scOnMotion_entries (s : State) :
    (scOnMotion s).ft[fClutchSlip] = slipEntry s ∧ (scOnMotion s).ft[fRecoveryFailed] = recoveryEntry s
      ∧ ∀ i : Fin 47, i ≠ fClutchSlip → i ≠ fRecoveryFailed → (scOnMotion s).ft[i] = s.ft[i] := by
  rw [scOnMotion_eq]
  refine ⟨?_, entry_set_same _ _ _, fun i hslip hrecovery => ?_⟩
  · exact (entry_set_other _ (by decide) _).trans (entry_set_same _ _ _)
  · exact (entry_set_other _ hrecovery.symm _).trans (entry_set_other _ hslip.symm _)

/-- An ACTIVE entry is LATCHED at its end, and another stays as it was (R198). -/
theorem endedAt_shows (t : Nat) (e : FaultEntry) :
    (e.state = .active → (endedAt t e).state = .latched) ∧ (e.state ≠ .active → endedAt t e = e) := by
  refine ⟨fun h => ?_, fun h => if_neg h⟩
  unfold endedAt
  rw [if_pos h]

/-- CLUTCH_SLIP is reported 200 ms after the slip began (R131). -/
theorem scOnMotion_slips {s : State} (h : Slips s) : let e := (scOnMotion s).ft[fClutchSlip]
    (s.time < slipSince s + 200000 → e = s.ft[fClutchSlip])
      ∧ (slipSince s + 200000 ≤ s.time → e.state = .active
        ∧ ((s.ft[fClutchSlip]).state ≠ .active → e.detail = BitVec.ofNat 16 s.sc.pub.gear)) := by
  intro e
  obtain ⟨hslip, -⟩ := scOnMotion_entries s
  have he : e = if slipSince s + 200000 ≤ s.time then startedAt s.time s.sc.pub.gear s.ft[fClutchSlip]
    else s.ft[fClutchSlip] := hslip.trans (if_pos h)
  refine ⟨fun hlt => he.trans (if_neg (Nat.not_le.2 hlt)), fun hle => ?_⟩
  rw [he, if_pos hle]
  exact ⟨startedAt_active _ _ _, startedAt_detail _ _⟩

/-- CLUTCH_SLIP ends where the condition or the state is gone (R131). -/
theorem scOnMotion_grips {s : State} (h : ¬Slips s) : let e := (scOnMotion s).ft[fClutchSlip]
    ((s.ft[fClutchSlip]).state = .active → e.state = .latched)
      ∧ ((s.ft[fClutchSlip]).state ≠ .active → e = s.ft[fClutchSlip]) := by
  intro e
  obtain ⟨hslip, -⟩ := scOnMotion_entries s
  rw [show e = endedAt s.time s.ft[fClutchSlip] from hslip.trans (if_neg h)]
  exact endedAt_shows _ _

/-- RECOVERY_FAILED ends at standstill (R129). -/
theorem scOnMotion_recovery (s : State) : let e := (scOnMotion s).ft[fRecoveryFailed]
    (s.me.pub.standstill = true → (s.ft[fRecoveryFailed]).state = .active → e.state = .latched)
      ∧ (s.me.pub.standstill = false ∨ (s.ft[fRecoveryFailed]).state ≠ .active → e = s.ft[fRecoveryFailed]) := by
  intro e
  obtain ⟨-, hrecovery, -⟩ := scOnMotion_entries s
  obtain ⟨hlatched, hsame⟩ := endedAt_shows s.time s.ft[fRecoveryFailed]
  rw [show e = recoveryEntry s from hrecovery]
  unfold recoveryEntry
  cases s.me.pub.standstill with
  | false => exact ⟨fun h => absurd h Bool.false_ne_true, fun _ => rfl⟩
  | true => exact ⟨fun _ => hlatched, fun h => hsame (h.resolve_left Bool.noConfusion)⟩

/-! ### The TBC -/

/-- The pre-brake state that the TBC forms is published (R177). -/
theorem BrakeFormed.preBrake_shown {after : BrakeRecord} {s0 s : State} (h : BrakeFormed after s0 s) :
    s.tbc.pub.preBrake = s.tbc.cur.preBrake := by
  rw [← h.shown]

/-- A queue with room for them takes notices in their order (R17). -/
theorem offerAll_appends {ns : List Notice} {lp : LinkPort} (h : lp.notices.length + ns.length ≤ 16) :
    (offerAll ns lp).notices = lp.notices ++ ns := by
  induction ns generalizing lp with
  | nil => exact (List.append_nil _).symm
  | cons n ns ih =>
    rw [List.length_cons] at h
    have hroom : lp.notices.length < Config.noticeCap := show lp.notices.length < 16 by omega
    have hn : (offerNotice n lp).notices = lp.notices ++ [n] := by
      show (offer n lp.notices).1 = _
      unfold offer
      rw [if_pos hroom]
    have hrest := ih (lp := offerNotice n lp) (by rw [hn, List.length_append, List.length_singleton]; omega)
    rw [hn, List.append_assoc] at hrest
    exact hrest

/-- A motion update on the move (R178, R192). -/
theorem tbcOnMotion_moving {s : State} (h : s.me.pub.standstill = false) :
    let b := s.tbc.cur
    let t := tbcOnMotion s
    BrakeStands (checkAborted b) s t ∧ t.tbc.pub.preBrake = b.preBrake
      ∧ t.tbc.stage = (if b.check = .idle then s.tbc.stage else none) ∧ t.ft = s.ft ∧ t.lp = offerAll (abortedNote s) s.lp := by
  intro b t
  have hf : BrakeFormed (checkAborted b) s (tbcFinish (checkAbort s)) := (BrakeForms.start rfl rfl rfl).checkAbort.finish
  obtain ⟨-, -, hpre, -⟩ := checkAborted_keeps b
  rw [show t = tbcFinish (checkAbort s) from tbcOnMotion_eq_of_moving h]
  refine ⟨hf.stands, ?_, ?_, ?_, ?_⟩
  · rw [hf.preBrake_shown, tbcFinish_preBrake, checkAbort_eq]
    exact hpre
  · rw [(tbcFinish_timers _).1, checkAbort_eq]
  · simp [checkAbort_eq]
  · simp [checkAbort_eq]

/-- A motion update at standstill without the policy pressure (R178). -/
theorem tbcOnMotion_standing {s : State} (h : s.me.pub.standstill = true) (hp : s.tbc.cur.policyOn = false) :
    let t := tbcOnMotion s
    BrakeStands s.tbc.cur s t ∧ t.tbc.pub.preBrake = s.tbc.cur.preBrake ∧ t.tbc.stage = s.tbc.stage ∧ t.ft = s.ft
      ∧ t.lp = s.lp := by
  intro t
  have hf : BrakeFormed s.tbc.cur s (tbcFinish s) := (BrakeForms.start rfl rfl rfl).finish
  rw [show t = tbcFinish s from tbcOnMotion_eq_of_standing h hp]
  exact ⟨hf.stands, hf.preBrake_shown.trans (tbcFinish_preBrake s), (tbcFinish_timers s).1, by simp, by simp⟩

/-- A motion update at standstill with the policy pressure applied (R183, R192, R195). -/
theorem tbcOnMotion_parking {s : State} (hr : s.inRun = true) (h : s.me.pub.standstill = true) (hp : s.tbc.cur.policyOn = true) :
    let b := s.tbc.cur
    let t := tbcOnMotion s
    BrakeStands (policyParked b) s t ∧ t.tbc.pub.preBrake = .off ∧ t.tbc.runOut = none
      ∧ t.tbc.stage = (if b.check = .idle then s.tbc.stage else none)
      ∧ (b.mode ≠ .park → t.tbc.charge = none ∧ t.tbc.lowHold = none
          ∧ ((s.ft[fSuppLow]).state = .active → (t.ft[fSuppLow]).state = .latched))
      ∧ (b.mode = .park ∨ (s.ft[fSuppLow]).state ≠ .active → t.ft = s.ft
          ∧ t.lp = offerAll (abortedNote s ++ [parkNote s]) s.lp)
      ∧ (s.lp.notices = [] → parkNote s ∈ t.lp.notices) := by
  intro b t
  have hf : BrakeFormed (policyParked b) s (tbcFinish (policyPark s)) := (BrakeForms.start rfl rfl rfl).policyParks.finish
  have hstands := hf.stands
  obtain ⟨-, -, -, -, -, hoff⟩ := hstands
  obtain ⟨hstage, hcharge, hlow, hrunOut, -⟩ := tbcFinish_timers (policyPark s)
  obtain ⟨ns, hns, hlp, hquiet⟩ := policyPark_notes hr
  have hft' : (tbcFinish (policyPark s)).ft = (policyPark s).ft := by simp
  have hlp' : (tbcFinish (policyPark s)).lp = (policyPark s).lp := by simp
  rw [show t = tbcFinish (policyPark s) from tbcOnMotion_eq_of_parking h hp]
  refine ⟨hf.stands, hoff TrailerMode.noConfusion rfl, hrunOut.trans (policyPark_runOut s), hstage.trans (policyPark_stage s),
    fun hm => ?_, fun hq => ?_, fun he => ?_⟩
  · obtain ⟨hc, hl, hlatched⟩ := policyPark_moved hm
    exact ⟨hcharge.trans hc, hlow.trans hl, by rw [hft']; exact hlatched⟩
  · obtain ⟨hft, hn⟩ := hquiet hq
    rw [hft', hlp', hlp, hn]
    exact ⟨hft, rfl⟩
  · rw [hlp', hlp, offerAll_appends (by rw [he, List.length_append, List.length_singleton, List.length_nil]; omega)]
    simp

end Sys2Proof.Machine

open Sys2Proof Sys2Proof.Machine

/-- Settles O54: the state in which the record is formed, and from it what the SC and then the TBC make of it, by the slip of the gear,
by standstill and by the policy pressure. -/
theorem motionUpdatesReachTheJobs : Obligations.MotionUpdatesReachTheJobs := by
  unfold Obligations.MotionUpdatesReachTheJobs
  refine ⟨?_, ?_, ?_⟩
  · intro s hz hr hd latched
    have hformed := motionFormed_eq s
    obtain ⟨hinput, hfront, hradar, hnOut, hlead, hvR⟩ := motionFormed_reported s
    obtain ⟨einput, efront, eradar, eother⟩ := plausibleEntries_at (speedsOf s) s
    have hft : (motionFormed s).ft = plausibleEntries (speedsOf s) s := by rw [hformed]
    have hlp : (motionFormed s).lp = offerAll (plausibleNotes (speedsOf s) s) s.lp := by rw [hformed]
    refine ⟨motionFormed s, ⟨_, exec_motionUpdate hr hd, congrArg settle (motionUpdate_eq s), motionUpdate_me s⟩, ?_, ?_, ?_, ?_⟩
    · rw [hft, hlp]
      exact hformed
    · rw [hft]
      exact eother
    · rw [hft, hinput, hfront, hradar, hnOut, hlead, hvR]
      exact ⟨suspectEntry_shows einput, suspectEntry_shows efront, suspectEntry_shows eradar⟩
    · rw [hlp, hinput, hfront, hradar, hnOut, hlead, hvR]
      rfl
  · intro s m slips since t
    obtain ⟨-, -, hother⟩ := scOnMotion_entries s
    obtain ⟨hends, hkept⟩ := scOnMotion_recovery s
    have hlp : t.lp = _ := congrArg State.lp (scOnMotion_eq s)
    have hft : t.ft = _ := congrArg State.ft (scOnMotion_eq s)
    refine ⟨?_, fun h => (scOnMotion_slips h).1, fun h => (scOnMotion_slips h).2, fun h => (scOnMotion_grips h).1,
      fun h => (scOnMotion_grips h).2, hends, hkept, hother, hlp⟩
    rw [hlp, hft]
    exact scOnMotion_eq s
  · intro s hr b t idle aborted
    refine ⟨tbcOnMotion_moving, tbcOnMotion_standing, fun hs hp => ?_, by simp [t], by simp [t], by simp [t, KeepsMeasures]⟩
    obtain ⟨hstands, hpre, hrunOut, hstage, hmoved, hquiet, hposted⟩ := tbcOnMotion_parking hr hs hp
    refine ⟨hstands, hpre, hrunOut, hstage, hmoved, hquiet, fun he => ⟨_, hposted he, rfl, rfl, ?_⟩⟩
    show BitVec.ofNat 16 b.present.toNat = _
    cases b.present <;> rfl
end
